-- ==== Sys2Proof/Word.lean ====
section
/-! DEFINITION. The plain data types the spec's registers and pseudocode are made of: bytes, 32-bit register words,
binary32 bit patterns, the vectors of `00_scope.md` R23 and one RGBA8 texel. Nothing here computes. -/

namespace Sys2Proof

/-- A `u8` (R19). -/
abbrev Byte := BitVec 8

/-- A 32-bit register word: what one register-port access moves (R74). -/
abbrev Word := BitVec 32

/-- A binary32 value held as its raw bit pattern (R15, R39). A structure of its own, so that no integer operation can be
applied to a float by mistake. -/
structure F32 where
  /-- the IEEE 754 binary32 encoding -/
  bits : BitVec 32
deriving DecidableEq, Repr, Inhabited

/-- `Vec3` of R23: the lanes are (R, G, B). -/
structure Vec3 where
  x : F32
  y : F32
  z : F32
deriving DecidableEq, Repr, Inhabited

/-- `Vec4` of R23. -/
structure Vec4 where
  x : F32
  y : F32
  z : F32
  w : F32
deriving DecidableEq, Repr, Inhabited

/-- `Sym3x3` of R221: the six entries of a symmetric matrix, in the spec's order `[0]` to `[5]`. -/
structure Sym3x3 where
  xx : F32
  xy : F32
  xz : F32
  yy : F32
  yz : F32
  zz : F32
deriving DecidableEq, Repr, Inhabited

/-- One RGBA8 texel (R25), bytes in the order R, G, B, A. -/
structure Rgba where
  r : Byte
  g : Byte
  b : Byte
  a : Byte
deriving DecidableEq, Repr, Inhabited

/-- The sixteen texel slots in raster order (R25). -/
def slots : List (Fin 16) := List.finRange 16

end Sys2Proof
end

