-- ==== Sys2Proof/Syntax.lean ====
section
/-! DEFINITION. The commands of the opcode map (`30_encoding.md` R101), the command word of format C (R100), the error
codes (`60_exceptions.md` R451) and the events of the total order of host accesses and core steps (`20_memory.md` R81). -/

namespace Sys2Proof

/-- The 17 commands of R101, one constructor per row of the opcode table. A command has no operand field (R100): every
operand is a register and every option a flag of CFG. -/
inductive Instr where
  | nop
  | compress
  | compressMasked
  | decompress
  | clear
  | psBuild
  | fitAuto
  | fitSingle
  | fitRange
  | fitCluster
  | pack3
  | pack4
  | colourDec
  | alpha3Enc
  | alpha3Dec
  | alpha5Enc
  | alpha5Dec
deriving DecidableEq, Repr

/-- Format C (R100): the 32-bit word written to CMD, as its two fields. -/
structure CommandWord where
  /-- bits [7:0] -/
  op : Byte
  /-- bits [31:8], reserved -/
  rsv : BitVec 24
deriving DecidableEq, Repr

/-- The error codes 1 to 8 of R451. -/
inductive ErrorCode where
  | illegalOp
  | reserved
  | busy
  | noPs
  | count
  | badAddr
  | roWrite
  | operand
deriving DecidableEq, Repr

/-- One event of the total order of R81: a host access (R74), a core step (R454), or a reset (R480). -/
inductive Event where
  /-- `RegWrite(off, v)` -/
  | write (off : BitVec 12) (v : Word)
  /-- `RegRead(off)` -/
  | read (off : BitVec 12)
  /-- `CoreStep()`, which has no effect while no command is pending -/
  | coreStep
  /-- `Reset()` -/
  | reset
deriving DecidableEq, Repr

end Sys2Proof
end

