-- ==== Sys2Proof/WellFormed.lean ====
section
/-! DEFINITION. Which command words the core accepts (`30_encoding.md` R100, R102, R103). -/

namespace Sys2Proof

/-- R103: a command word needs `RSV = 0`. -/
def CommandWord.rsvClear (c : CommandWord) : Bool := c.rsv == 0#24

/-- R102: the OP is in none of the ranges the rule lists as illegal. -/
def CommandWord.opListed (c : CommandWord) : Bool :=
  let n := c.op.toNat
  !(0x05 ≤ n && n ≤ 0x0F) && !(0x11 ≤ n && n ≤ 0x1F) && !(0x24 ≤ n && n ≤ 0x2F) &&
    !(0x33 ≤ n && n ≤ 0x3F) && !(0x44 ≤ n && n ≤ 0xFF)

/-- A command word the acceptance checks of R450 let through. -/
def CommandWord.wellFormed (c : CommandWord) : Bool := c.rsvClear && c.opListed

/-- Every command is well formed: format C gives it no operand field that could be out of range (R100). -/
def Instr.wellFormed (_ : Instr) : Bool := true

end Sys2Proof
end

