-- ==== Sys2Proof/Decode.lean ====
section
/-! DEFINITION. The command-word decoder and encoder (`30_encoding.md` R100 to R103). -/

namespace Sys2Proof

/-- The two ways a command word is refused (R102, R103); E_RESERVED is checked first (R453). -/
inductive DecodeError where
  | reserved
  | illegalOp
deriving DecidableEq, Repr

/-- The fields of a 32-bit word in format C (R100). -/
def CommandWord.ofWord (w : Word) : CommandWord :=
  ⟨w.extractLsb' 0 8, w.extractLsb' 8 24⟩

/-- The 32-bit word of a format C word (R100). -/
def CommandWord.toWord (c : CommandWord) : Word := c.rsv ++ c.op

/-- The opcode map of R101, from OP to command. -/
def decodeOp (op : Byte) : Option Instr :=
  match op.toNat with
  | 0x00 => some .nop
  | 0x01 => some .compress
  | 0x02 => some .compressMasked
  | 0x03 => some .decompress
  | 0x04 => some .clear
  | 0x10 => some .psBuild
  | 0x20 => some .fitAuto
  | 0x21 => some .fitSingle
  | 0x22 => some .fitRange
  | 0x23 => some .fitCluster
  | 0x30 => some .pack3
  | 0x31 => some .pack4
  | 0x32 => some .colourDec
  | 0x40 => some .alpha3Enc
  | 0x41 => some .alpha3Dec
  | 0x42 => some .alpha5Enc
  | 0x43 => some .alpha5Dec
  | _ => none

/-- The decoder, total on every word: `RSV ≠ 0` is refused whatever the OP (R103), then an unlisted OP (R102). -/
def decode (w : Word) : Except DecodeError Instr :=
  let c := CommandWord.ofWord w
  if c.rsv ≠ 0#24 then .error .reserved
  else
    match decodeOp c.op with
    | some i => .ok i
    | none => .error .illegalOp

/-- The opcode map of R101, from command to OP. -/
def Instr.opcode : Instr → Byte
  | .nop => 0x00#8
  | .compress => 0x01#8
  | .compressMasked => 0x02#8
  | .decompress => 0x03#8
  | .clear => 0x04#8
  | .psBuild => 0x10#8
  | .fitAuto => 0x20#8
  | .fitSingle => 0x21#8
  | .fitRange => 0x22#8
  | .fitCluster => 0x23#8
  | .pack3 => 0x30#8
  | .pack4 => 0x31#8
  | .colourDec => 0x32#8
  | .alpha3Enc => 0x40#8
  | .alpha3Dec => 0x41#8
  | .alpha5Enc => 0x42#8
  | .alpha5Dec => 0x43#8

/-- The command word of a command: its OP with `RSV = 0` (R100, R101). -/
def encode (i : Instr) : Word := CommandWord.toWord ⟨i.opcode, 0#24⟩

/-- The command the decoder reads from an opcode-table row's bits. A command is one 32-bit word (R100), so a number that
needs more than 32 bits is no command word. `nbits` is not used: a bit above it is 0 in `w`. -/
def decodeTableWord (_nbits w : Nat) : Option Instr :=
  if w < 2 ^ 32 then (decode (BitVec.ofNat 32 w)).toOption else none

end Sys2Proof
end

