-- ==== Sys2Proof/Machine/State.lean ====
section
/-! DEFINITION. The state of one core (`10_state.md`), its reset value (R60), and the reasons a step can stop. -/

namespace Sys2Proof.Machine

/-- `S.fit_kind` (R44). -/
inductive FitKind where
  | none
  | single
  | range
  | cluster
deriving DecidableEq, Repr

/-- The point-set file (R43). `remap[i] = none` is INVALID. -/
structure PointSet where
  /-- `S.ps_valid` -/
  valid : Bool
  /-- `S.ps_count`, 0..16 -/
  count : Nat
  /-- `S.ps_point[k]` -/
  point : Vector Vec3 16
  /-- `S.ps_weight[k]` -/
  weight : Vector F32 16
  /-- `S.ps_remap[i]` -/
  remap : Vector (Option (Fin 16)) 16
  /-- `S.ps_transparent` -/
  transparent : Bool
  /-- `S.ps_cfg`, the normalised flags the set was built under -/
  cfg : BitVec 9
deriving DecidableEq, Repr

/-- The fit-result file (R44). -/
structure FitResult where
  /-- `S.fit_valid` -/
  valid : Bool
  /-- `S.fit_kind` -/
  kind : FitKind
  /-- `S.fit_mode4` -/
  mode4 : Bool
  /-- `S.fit_start` -/
  start : Vec3
  /-- `S.fit_end` -/
  stop : Vec3
  /-- `S.fit_idx[i]` -/
  idx : Vector (BitVec 2) 16
deriving DecidableEq, Repr

/-- Everything the spec gives one core, and three fields of the model's own (`events`, `oracle`, `rdata`). ECFG, PSINFO,
FITINFO, PS_REMAP0/1, PS_RVALID and STATUS are views of it (`Machine/Flags.lean`, `Machine/Ops.lean`). -/
structure State where
  /-- CFG[8:0] (R35); CFG[31:9] does not exist (R107) -/
  cfg : BitVec 9
  /-- MASK[15:0] (R36) -/
  mask : BitVec 16
  /-- STATUS.DONE (R40) -/
  done : Bool
  /-- STATUS.ERR (R40) -/
  err : Bool
  /-- STATUS.ECODE (R40) -/
  ecode : BitVec 4
  /-- STATUS.LASTOP (R40) -/
  lastop : Byte
  /-- `S.busy`, read as STATUS.BUSY (R47) -/
  busy : Bool
  /-- `S.pending`, the OP of the accepted command (R47) -/
  pending : Byte
  /-- TEXEL[0..15] (R31) -/
  texel : Vector Word 16
  /-- BLOCK[0..3] (R32) -/
  block : Vector Word 4
  /-- the point-set file (R43) -/
  ps : PointSet
  /-- the fit-result file (R44) -/
  fit : FitResult
  /-- `S.besterr` (R45) -/
  besterr : F32
  /-- `S.besterr_i` (R45) -/
  besterrI : Word
  /-- `S.aerr5` (R46) -/
  aerr5 : Word
  /-- `S.aerr7` (R46) -/
  aerr7 : Word
  /-- `S.iters`, 0..8 (R42, R272) -/
  iters : Nat
  /-- `S.best_iter`, 0..7 (R42, R272) -/
  bestIter : Nat
  /-- `S.order[0..127]` (R48) -/
  order : Vector Byte 128
  /-- THE MODEL'S OWN: the events still to come, in the total order of R81 (log entries 1, 2) -/
  events : List Event
  /-- THE MODEL'S OWN: how many busy reads have drawn a free value (log entry 10) -/
  oracle : Nat
  /-- THE MODEL'S OWN: the value the last `RegRead` returned to the host (log entry 11) -/
  rdata : Word
deriving DecidableEq, Repr

/-- Why the machine stops with a fault. -/
inductive Fault where
  /-- Raised by `step` only, when the core is to perform its step and `S.pending` is no OP of R101. No accepted command leads
  there (R450 checks the OP before it is stored), and the spec gives such a state no meaning. Safe: the model stops where the
  spec says nothing (log entry 14). -/
  | pendingIllegal
deriving DecidableEq, Repr

/-- Why an instruction has no meaning. -/
inductive Refusal where
  /-- Raised by `exec` for a command the model gives no meaning yet, with the command's mnemonic. Safe. No arm uses it. -/
  | notModelled (mnemonic : String)
deriving DecidableEq, Repr

/-- `(+0.0, +0.0, +0.0)`. -/
def zeroVec3 : Vec3 := ⟨⟨0#32⟩, ⟨0#32⟩, ⟨0#32⟩⟩

/-- The point-set file's reset values (R60). -/
def PointSet.reset : PointSet where
  valid := false
  count := 0
  point := Vector.replicate 16 zeroVec3
  weight := Vector.replicate 16 ⟨0#32⟩
  remap := Vector.replicate 16 none
  transparent := false
  cfg := 0#9

/-- The fit-result file's reset values (R60). -/
def FitResult.reset : FitResult where
  valid := false
  kind := .none
  mode4 := false
  start := zeroVec3
  stop := zeroVec3
  idx := Vector.replicate 16 0#2

/-- The machine right after reset (R60, R480, R481): every value is the spec's but those of the model's own fields `events`,
`oracle` and `rdata` (log entries 1, 10, 11). -/
def State.reset : State where
  cfg := 0#9
  mask := 0#16
  done := false
  err := false
  ecode := 0#4
  lastop := 0#8
  busy := false
  pending := 0#8
  texel := Vector.replicate 16 0#32
  block := Vector.replicate 4 0#32
  ps := PointSet.reset
  fit := FitResult.reset
  besterr := ⟨0#32⟩
  besterrI := 0#32
  aerr5 := 0#32
  aerr7 := 0#32
  iters := 0
  bestIter := 0
  order := Vector.replicate 128 0#8
  events := []
  oracle := 0
  rdata := 0#32

end Sys2Proof.Machine
end

