-- ==== Sys2Proof/Machine/Float.lean ====
section
/-! DEFINITION. The binary32 scalar datapath (`00_scope.md` R15, R21, R22; `40_vector_math.md` R150 to R153): every
operation computes its exact result on integers and rounds it once, to nearest even, subnormals kept. -/

namespace Sys2Proof

/-- What a binary32 pattern denotes: `fin neg m e` is `(-1)^neg * m * 2^e`. -/
inductive FVal where
  | nan
  | inf (neg : Bool)
  | fin (neg : Bool) (m : Nat) (e : Int)
deriving DecidableEq, Repr

/-- Read a bit pattern: sign bit 31, exponent field bits 30..23, fraction bits 22..0. -/
def F32.unpack (x : F32) : FVal :=
  let n := x.bits.toNat
  let neg := decide (0x80000000 ≤ n)
  let ex := n / 0x800000 % 256
  let fr := n % 0x800000
  if ex = 255 then (if fr = 0 then .inf neg else .nan)
  else if ex = 0 then .fin neg fr (-149)
  else .fin neg (fr + 0x800000) ((ex : Int) - 150)

/-- The pattern with sign `neg` and magnitude field `mag` (bits 30..0). -/
def F32.ofSignMag (neg : Bool) (mag : Nat) : F32 :=
  ⟨BitVec.ofNat 32 (if neg then mag + 0x80000000 else mag)⟩

/-- The NaN every invalid operation gives. No rule lets its payload be observed (R151). DESIGN CHOICE, log entry 5. -/
def F32.nan : F32 := ⟨0x7FC00000#32⟩
/-- A signed infinity. -/
def F32.inf (neg : Bool) : F32 := F32.ofSignMag neg 0x7F800000
/-- A signed zero. -/
def F32.signedZero (neg : Bool) : F32 := F32.ofSignMag neg 0

/-- `+0.0`. -/
def F32.zero : F32 := ⟨0x00000000#32⟩
/-- `1.0`. -/
def F32.one : F32 := ⟨0x3F800000#32⟩
/-- `0.5`. -/
def F32.half : F32 := ⟨0x3F000000#32⟩
/-- `0.25`. -/
def F32.quarter : F32 := ⟨0x3E800000#32⟩
/-- `2.0`. -/
def F32.two : F32 := ⟨0x40000000#32⟩
/-- `FLT_MAX` of R22. -/
def F32.fltMax : F32 := ⟨0x7F7FFFFF#32⟩
/-- `FLT_EPSILON = 2^-23` of R22. -/
def F32.fltEpsilon : F32 := ⟨0x34000000#32⟩

/-- `m / 2^k` rounded to the nearest integer, ties to even (`k ≥ 1`). -/
def roundShift (m k : Nat) : Nat :=
  let h := m >>> k
  let r := m - h <<< k
  let half := 1 <<< (k - 1)
  if half < r || (r == half && h % 2 == 1) then h + 1 else h

/-- `(-1)^neg * m * 2^e` rounded once to binary32, to nearest even (R15, R150): the quantum is `2^q`, `q` at least `-149`;
a result past `FLT_MAX` is an infinity. -/
def F32.round (neg : Bool) (m : Nat) (e : Int) : F32 :=
  if m = 0 then F32.signedZero neg
  else
    let t : Int := (Nat.log2 m : Int) + e - 23
    let q : Int := if t < -149 then -149 else t
    let mant := if q ≤ e then m <<< (e - q).toNat else roundShift m (q - e).toNat
    let mag := (q + 149).toNat * 0x800000 + mant
    if 0x7F800000 ≤ mag then F32.inf neg else F32.ofSignMag neg mag

/-- `float(n)` (R151), and any other non-negative integer, rounded once. -/
def F32.ofNat (n : Nat) : F32 := F32.round false n 0

/-- `f32(p/q)` (R22): the binary32 value nearest the rational `p/q`, `q > 0`. The quotient keeps at least 34 bits below
the rounding point, and a sticky bit below those. -/
def F32.ofRatio (neg : Bool) (p q : Nat) : F32 :=
  let n := p <<< 190
  let s := if n % q = 0 then 0 else 1
  F32.round neg (2 * (n / q) + s) (-191)

/-- The integer `(-1)^neg * m`. -/
def signedInt (neg : Bool) (m : Nat) : Int := if neg then -(m : Int) else (m : Int)

/-- `-x`: the sign bit flipped, exact (R225). -/
def F32.neg (x : F32) : F32 := ⟨x.bits ^^^ 0x80000000#32⟩

/-- `|x|`: the sign bit cleared, exact (R224). -/
def F32.abs (x : F32) : F32 := ⟨x.bits &&& 0x7FFFFFFF#32⟩

/-- `x + y`, one rounding (R15, R150). -/
def F32.add (x y : F32) : F32 :=
  match x.unpack, y.unpack with
  | .nan, _ => F32.nan
  | _, .nan => F32.nan
  | .inf a, .inf b => if a = b then F32.inf a else F32.nan
  | .inf a, .fin _ _ _ => F32.inf a
  | .fin _ _ _, .inf b => F32.inf b
  | .fin a m e, .fin b n f =>
    let q := if e ≤ f then e else f
    let t := signedInt a (m <<< (e - q).toNat) + signedInt b (n <<< (f - q).toNat)
    if t = 0 then F32.signedZero (a && b) else F32.round (decide (t < 0)) t.natAbs q

/-- `x - y`, one rounding. -/
def F32.sub (x y : F32) : F32 := x.add y.neg

/-- `x * y`, one rounding (R15, R150: `0·∞` gives a NaN). -/
def F32.mul (x y : F32) : F32 :=
  match x.unpack, y.unpack with
  | .nan, _ => F32.nan
  | _, .nan => F32.nan
  | .inf a, .inf b => F32.inf (a ^^ b)
  | .inf a, .fin b n _ => if n = 0 then F32.nan else F32.inf (a ^^ b)
  | .fin a m _, .inf b => if m = 0 then F32.nan else F32.inf (a ^^ b)
  | .fin a m e, .fin b n f => F32.round (a ^^ b) (m * n) (e + f)

/-- `x / y`, one rounding (R150: `0/0` and `∞/∞` give a NaN, a non-zero finite value over zero a signed infinity). -/
def F32.div (x y : F32) : F32 :=
  match x.unpack, y.unpack with
  | .nan, _ => F32.nan
  | _, .nan => F32.nan
  | .inf _, .inf _ => F32.nan
  | .inf a, .fin b _ _ => F32.inf (a ^^ b)
  | .fin a _ _, .inf b => F32.signedZero (a ^^ b)
  | .fin a m e, .fin b n f =>
    if n = 0 then (if m = 0 then F32.nan else F32.inf (a ^^ b))
    else
      let t := m <<< 50
      let s := if t % n = 0 then 0 else 1
      F32.round (a ^^ b) (2 * (t / n) + s) (e - f - 51)

/-- `⌊√n⌋` for `n < 2^(2k)`, one result bit at a time from bit `k - 1` down. -/
def isqrt : Nat → Nat → Nat → Nat
  | 0, _, acc => acc
  | k + 1, n, acc =>
    let t := acc + 1 <<< k
    isqrt k n (if t * t ≤ n then t else acc)

/-- `fsqrt`: the correctly rounded square root (R21). A negative non-zero operand gives a NaN, `-0.0` gives `-0.0`. -/
def F32.sqrt (x : F32) : F32 :=
  match x.unpack with
  | .nan => F32.nan
  | .inf neg => if neg then F32.nan else F32.inf false
  | .fin neg m e =>
    if m = 0 then F32.signedZero neg
    else if neg then F32.nan
    else
      let k : Nat := if e % 2 = 0 then 54 else 55
      let n := m <<< k
      let r := isqrt 40 n 0
      let s := if r * r = n then 0 else 1
      F32.round false (2 * r + s) ((e - k) / 2 - 1)

/-- Is the pattern a NaN? -/
def F32.isNaN (x : F32) : Bool :=
  match x.unpack with
  | .nan => true
  | _ => false

/-- Is the pattern a zero of either sign? -/
def F32.isZero (x : F32) : Bool :=
  match x.unpack with
  | .fin _ m _ => m == 0
  | _ => false

/-- Is the pattern neither a NaN nor an infinity (R331)? -/
def F32.isFinite (x : F32) : Bool :=
  match x.unpack with
  | .fin _ _ _ => true
  | _ => false

/-- An integer that orders the non-NaN patterns as their values (both zeros give 0). -/
def F32.key (x : F32) : Int :=
  let n := x.bits.toNat
  if 0x80000000 ≤ n then -((n : Int) - 0x80000000) else (n : Int)

/-- The IEEE ordered comparison `x < y` (R152): false if either operand is a NaN. -/
def F32.lt (x y : F32) : Bool :=
  !x.isNaN && !y.isNaN && decide (x.key < y.key)

/-- `Min(u, v) = (v < u) ? v : u` (R152). -/
def F32.min (u v : F32) : F32 := if v.lt u then v else u

/-- `Max(u, v) = (u < v) ? v : u` (R152). -/
def F32.max (u v : F32) : F32 := if u.lt v then v else u

/-- `Truncate(x)` (R153): rounding toward zero, exact; `floor` of a positive and `ceil` of any other operand keep the sign
of a result that is zero. -/
def F32.trunc (x : F32) : F32 :=
  match x.unpack with
  | .nan => F32.nan
  | .inf neg => F32.inf neg
  | .fin neg m e => if 0 ≤ e then x else F32.round neg (m >>> (-e).toNat) 0

/-- The exact integer value of `Truncate(x)` for finite `x` (R159). -/
def F32.toInt? (x : F32) : Option Int :=
  match x.unpack with
  | .fin neg m e => some (signedInt neg (if 0 ≤ e then m <<< e.toNat else m >>> (-e).toNat))
  | _ => none

end Sys2Proof
end

