-- ==== Sys2Proof/Machine/Libm.lean ====
section
/-! DEFINITION. The default of parameter P_LIBM (`00_scope.md` R16): correctly rounded `atan2f`, `powf`, `cosf` and
`sinf`. Each is evaluated in fixed point with far more bits than a binary32 rounding decision needs (UNVERIFIED, log entry 3)
and rounded once; where the result is an operand or a quotient less an amount that no fixed number of bits shows, the rounding
takes its side into account. Operands outside those R226 passes (zeros, infinities, NaNs, negative bases) get the C99 Annex F results,
PRESUMED, log entry 4. -/

namespace Sys2Proof

/-- The fixed-point scale of this file: an integer `v` stands for `v / 2^256`. -/
def fixBits : Nat := 256
/-- `1.0` in fixed point. -/
def fixOne : Nat := 1 <<< fixBits
/-- The fixed-point product, truncated. -/
def fixMul (a b : Nat) : Nat := (a * b) >>> fixBits
/-- The fixed-point quotient, truncated (`b > 0`). -/
def fixDiv (a b : Nat) : Nat := (a <<< fixBits) / b

/-- `(-1)^neg * m * 2^e` rounded to binary32 where `m` is an approximation good to more than 128 bits: `m` is first rounded
to 128 significant bits, so that an exactly representable result is found as such. -/
def roundApprox (neg : Bool) (m : Nat) (e : Int) : F32 :=
  let l := Nat.log2 m
  if l ≤ 127 then F32.round neg m e
  else F32.round neg (roundShift m (l - 127)) (e + ((l - 127 : Nat) : Int))

/-- `Σ z^(2k+1)/(2k+1)` with alternating signs if `alt`: the series of `atan` and of `atanh`, over a scale `2^b`. `p` is the
running power of `z`, `zz` is `z*z`, `d` the running odd divisor. -/
def oddSeries (alt : Bool) (b : Nat) : Nat → Nat → Nat → Nat → Int
  | 0, _, _, _ => 0
  | fuel + 1, p, zz, d =>
    let rest := oddSeries alt b fuel ((p * zz) >>> b) zz (d + 2)
    ((p / d : Nat) : Int) + (if alt then -rest else rest)

/-- `atan(1/n)` at scale `2^b`. -/
def atanInv (b terms n : Nat) : Int :=
  let z := (1 <<< b) / n
  oddSeries true b terms z ((1 <<< b) / (n * n)) 1

/-- The scale of `piWide`. -/
def piBits : Nat := 448
/-- `π` at scale `2^448`, by Machin's formula `π = 16 atan(1/5) - 4 atan(1/239)`. -/
def piWide : Nat := (16 * atanInv piBits 100 5 - 4 * atanInv piBits 32 239).toNat
/-- `π` in fixed point. -/
def piFix : Nat := piWide >>> (piBits - fixBits)

/-- `ln 2 = 2 atanh(1/3)` in fixed point. -/
def ln2Fix : Nat := (2 * oddSeries false fixBits 84 (fixOne / 3) (fixOne / 9) 1).toNat

/-- `Σ r^k/k!` from the term `t` on; `k` is the next divisor. -/
def expSeries : Nat → Nat → Nat → Nat → Nat
  | 0, _, _, _ => 0
  | fuel + 1, t, r, k => t + expSeries fuel (fixMul t r / k) r (k + 1)

/-- The alternating series of `cos` (from `t = 1`, `k = 1`) and `sin` (from `t = r`, `k = 2`). -/
def trigSeries : Nat → Nat → Nat → Nat → Int
  | 0, _, _, _ => 0
  | fuel + 1, t, rr, k => (t : Int) - trigSeries fuel (fixMul t rr / (k * (k + 1))) rr (k + 2)

/-- Euler's series `Σ c_k u^k`, `c_0 = 1`, `c_k = c_(k-1) * 2k/(2k+1)`, for `atan t = t/(1+t²) * Σ c_k u^k`,
`u = t²/(1+t²)`. -/
def eulerSeries : Nat → Nat → Nat → Nat → Nat
  | 0, _, _, _ => 0
  | fuel + 1, t, u, k => t + eulerSeries fuel (fixMul t u * (2 * k) / (2 * k + 1)) u (k + 1)

/-- `atan(p/q)` for `0 < p ≤ q` as `m * 2^e`, to more than 240 relative bits for a quotient of `2^-65` or more. -/
def atanRatio (p q : Nat) : Nat × Int :=
  let sh := 288 + (Nat.log2 q - Nat.log2 p)
  let t := (p <<< sh) / q
  let tFix := (p <<< fixBits) / q
  let tt := fixMul tFix tFix
  let u := fixDiv tt (fixOne + tt)
  let f := fixDiv (eulerSeries 270 fixOne u 1) (fixOne + tt)
  (t * f, -(sh : Int) - fixBits)

/-- What lies just below `(-1)^neg * m/n * 2^e` in magnitude, rounded to binary32, for `0 < m`, `n < 2^24`: the quotient has at
least 27 bits, and a last odd bit puts the value on the side of a rounding boundary where it lies. -/
def roundBelowRatio (neg : Bool) (m n : Nat) (e : Int) : F32 :=
  let t := m <<< 50
  F32.round neg (if t % n = 0 then 2 * (t / n) - 1 else 2 * (t / n) + 1) (e - 51)

/-- Is `m * 2^e` below `2^-64` times `n * 2^f`? Then the arc tangent of the ratio is the ratio less at most `2^-128` of it: less
than the distance of an inexact quotient of two significands to a 75-bit number. -/
def tinyRatio (m : Nat) (e : Int) (n : Nat) (f : Int) : Bool :=
  decide ((Nat.log2 m : Int) + e + 64 < (Nat.log2 n : Int) + f)

/-- `m * 2^e` in fixed point, truncated. -/
def toFix (m : Nat) (e : Int) : Nat :=
  let k := e + fixBits
  if 0 ≤ k then m <<< k.toNat else m >>> (-k).toNat

/-- `m * 2^e` over a common exponent with `n * 2^f`: the two integers. -/
def alignPair (m : Nat) (e : Int) (n : Nat) (f : Int) : Nat × Nat :=
  let q := min e f
  (m <<< (e - q).toNat, n <<< (f - q).toNat)

/-- The correctly rounded `atan2f(y, x)` (R16); the sign of the result is that of `y`. -/
def atan2fDefault (y x : F32) : F32 :=
  let quarterTurns (neg : Bool) (k : Nat) : F32 := roundApprox neg (piFix * k) (-(fixBits : Int) - 2)
  match y.unpack, x.unpack with
  | .nan, _ => F32.nan
  | _, .nan => F32.nan
  | .inf sy, .inf sx => quarterTurns sy (if sx then 3 else 1)
  | .inf sy, .fin _ _ _ => quarterTurns sy 2
  | .fin sy _ _, .inf sx => if sx then quarterTurns sy 4 else F32.signedZero sy
  | .fin sy m e, .fin sx n f =>
    if m = 0 then (if sx then quarterTurns sy 4 else F32.signedZero sy)
    else if n = 0 then quarterTurns sy 2
    else if !sx && tinyRatio m e n f then roundBelowRatio sy m n (e - f)
    else
      let (p, q) := alignPair m e n f
      if p ≤ q then
        let (am, ae) := atanRatio p q
        if sx then roundApprox sy (piFix - toFix am ae) (-(fixBits : Int)) else roundApprox sy am ae
      else
        let (am, ae) := atanRatio q p
        let a := toFix am ae
        roundApprox sy (if sx then piFix / 2 + a else piFix / 2 - a) (-(fixBits : Int))

/-- `|x| = m * 2^e` reduced by quarter turns: the number of whole quarter turns modulo 4, and the rest in fixed point. -/
def reduceQuarter (m : Nat) (e : Int) : Nat × Nat :=
  let k := e + piBits
  let v := if 0 ≤ k then m <<< k.toNat else m >>> (-k).toNat
  let h := piWide / 2
  (v / h % 4, (v % h) >>> (piBits - fixBits))

/-- `cos r` for `0 ≤ r ≤ π/2` in fixed point. -/
def cosFix (r : Nat) : Nat := (trigSeries 40 fixOne (fixMul r r) 1).toNat
/-- `sin r` for `0 ≤ r ≤ π/2` in fixed point. -/
def sinFix (r : Nat) : Nat := (trigSeries 40 r (fixMul r r) 2).toNat

/-- The correctly rounded `cosf` (R16). -/
def cosfDefault (x : F32) : F32 :=
  match x.unpack with
  | .nan => F32.nan
  | .inf _ => F32.nan
  | .fin _ m e =>
    let (k, r) := reduceQuarter m e
    roundApprox (k == 1 || k == 2) (if k % 2 = 0 then cosFix r else sinFix r) (-(fixBits : Int))

/-- The correctly rounded `sinf` (R16). For `|x| < 2^-13` the result nearest `x - x³/6 + …` is `x` itself. -/
def sinfDefault (x : F32) : F32 :=
  match x.unpack with
  | .nan => F32.nan
  | .inf _ => F32.nan
  | .fin neg m e =>
    if m = 0 || (Nat.log2 m : Int) + e < -13 then x
    else
      let (k, r) := reduceQuarter m e
      roundApprox (neg ^^ (k == 2 || k == 3)) (if k % 2 = 0 then sinFix r else cosFix r) (-(fixBits : Int))

/-- The fixed-point base-2 logarithm of `m * 2^e`, `m > 0`. -/
def log2Fix (m : Nat) (e : Int) : Int :=
  let l := Nat.log2 m
  let t := 1 <<< l
  let z := fixDiv (m - t) (m + t)
  let ln := 2 * oddSeries false fixBits 84 z (fixMul z z) 1
  (e + l) * fixOne + (fixDiv ln.toNat ln2Fix : Nat)

/-- `(m * 2^e)^y` for `m > 0` and `y = (-1)^ny * my * 2^ey`, rounded, with sign `neg`. -/
def powMagnitude (neg : Bool) (m : Nat) (e : Int) (ny : Bool) (my : Nat) (ey : Int) : F32 :=
  let a := log2Fix m e * signedInt ny my
  let p : Int := if 0 ≤ ey then a * (1 <<< ey.toNat : Nat) else a / (1 <<< (-ey).toNat : Nat)
  if (fixOne * 200 : Nat) ≤ p then F32.round neg 1 300
  else if p ≤ -(fixOne * 200 : Nat) then F32.round neg 1 (-300)
  else
    let k := p / fixOne
    let f := (p % fixOne).toNat
    roundApprox neg (expSeries 66 fixOne (fixMul f ln2Fix) 1) (k - fixBits)

/-- Is the finite value `m * 2^e` an integer, and if so an odd one? -/
def intParity (m : Nat) (e : Int) : Option Bool :=
  if 0 ≤ e then some (e == 0 && m % 2 == 1)
  else
    let k := (-e).toNat
    if m % (1 <<< k) = 0 then some (m >>> k % 2 == 1) else none

/-- The correctly rounded `powf(x, y)` (R16). -/
def powfDefault (x y : F32) : F32 :=
  if x = F32.one || y.isZero then F32.one
  else match x.unpack, y.unpack with
  | .nan, _ => F32.nan
  | _, .nan => F32.nan
  | .inf _, .inf ny => if ny then F32.zero else F32.inf false
  | .fin _ m e, .inf ny =>
    if x.abs = F32.one then F32.one
    else if (m = 0 ∨ (Nat.log2 m : Int) + e < 0) ↔ ny = true then F32.inf false else F32.zero
  | .inf nx, .fin ny my ey =>
    let odd : Bool := intParity my ey == some true
    if ny then F32.signedZero (nx && odd) else F32.inf (nx && odd)
  | .fin nx m e, .fin ny my ey =>
    let par := intParity my ey
    let odd : Bool := par == some true
    if m = 0 then (if ny then F32.inf (nx && odd) else F32.signedZero (nx && odd))
    else if nx && par == none then F32.nan
    else powMagnitude (nx && odd) m e ny my ey

end Sys2Proof
end

