-- ==== Sys2Proof/Machine/ScfTable.lean ====
section
/-! DEFINITION. The single-colour lookup tables (`44_fit_single.md` R300, R301; `10_state.md` R51): their shape and the
spec's default contents, computed by the brute-force generator of R301. -/

namespace Sys2Proof

/-- The bit depth `b ∈ {5, 6}` of a table (R300). -/
inductive ChannelDepth where
  | five
  | six
deriving DecidableEq, Repr

/-- The codebook size `s ∈ {3, 4}` of a table (R300). -/
inductive CodebookSize where
  | three
  | four
deriving DecidableEq, Repr

/-- One source triple of R300. -/
structure ScfSource where
  start : BitVec 6
  stop : BitVec 6
  error : Byte
deriving DecidableEq, Repr, Inhabited

/-- One table entry of R300: `src[0]` for index 0 and `src[1]` for index 2. -/
structure ScfEntry where
  src0 : ScfSource
  src1 : ScfSource
deriving DecidableEq, Repr, Inhabited

/-- The depth as a number of bits. -/
def ChannelDepth.bits : ChannelDepth → Nat
  | .five => 5
  | .six => 6

/-- `E_b(p)` of R301: a `b`-bit field expanded to 8 bits by replication. -/
def scfExpand (d : ChannelDepth) (p : Nat) : Nat :=
  (p <<< (8 - d.bits)) ||| (p >>> (2 * d.bits - 8))

/-- `V_s(p, q)` of R301: the value index 2 decodes to. -/
def scfInterp (s : CodebookSize) (d : ChannelDepth) (p q : Nat) : Nat :=
  match s with
  | .three => (scfExpand d p + scfExpand d q) / 2
  | .four => (2 * scfExpand d p + scfExpand d q) / 3

/-- `|x - y|` on integers (R163). -/
def absDiff (x y : Nat) : Nat := (x - y) + (y - x)

/-- A loop of R301 over candidates (error, start, end): a strictly smaller error replaces the best so far. -/
def scfScan : List (Nat × Nat × Nat) → Nat × Nat × Nat → Nat × Nat × Nat
  | [], best => best
  | c :: cs, best => if c.1 < best.1 then scfScan cs c else scfScan cs best

/-- `src[0]` of `GenEntry` (R301): the best (error, start, end) with the end set equal to the start. -/
def scfBest0 (d : ChannelDepth) (t : Nat) : Nat × Nat × Nat :=
  scfScan ((List.range (2 ^ d.bits)).map fun p => (absDiff (scfExpand d p) t, p, p)) (256, 0, 0)

/-- The candidates of the inner loop of R301's `src[1]`, for one `p`. -/
def scfRow (d : ChannelDepth) (s : CodebookSize) (t p : Nat) : List (Nat × Nat × Nat) :=
  (List.range (2 ^ d.bits)).map fun q => (absDiff (scfInterp s d p q) t, p, q)

/-- `src[1]` of `GenEntry` (R301): the best (error, start, end), `p` in the outer and `q` in the inner loop. -/
def scfBest1 (d : ChannelDepth) (s : CodebookSize) (t : Nat) : Nat × Nat × Nat :=
  scfScan ((List.range (2 ^ d.bits)).flatMap fun p => scfRow d s t p) (256, 0, 0)

/-- The triple of a loop's result. -/
def scfSourceOf (r : Nat × Nat × Nat) : ScfSource :=
  ⟨BitVec.ofNat 6 r.2.1, BitVec.ofNat 6 r.2.2, BitVec.ofNat 8 r.1⟩

/-- `GenEntry(b, s, t)` of R301: the default of parameter P_SCF_LUT. -/
def scfLutDefault (d : ChannelDepth) (s : CodebookSize) (t : Byte) : ScfEntry :=
  ⟨scfSourceOf (scfBest0 d t.toNat), scfSourceOf (scfBest1 d s t.toNat)⟩

end Sys2Proof
end

