-- ==== Sys2Proof/Config.lean ====
section
/-! DEFINITION. What an implementation fixes (`00_scope.md` R16 to R18, R27; `93_implementation_defined.md` Part A) and
the values the spec leaves open. Every operation that depends on a parameter takes a `Params`, so a statement can range
over all of them; the machine itself runs at `Config.params`. -/

namespace Sys2Proof

/-- Parameter P_LIBM (R16): total functions of binary32, and the constant `sqrt3`. -/
structure Libm where
  atan2f : F32 → F32 → F32
  powf : F32 → F32 → F32
  cosf : F32 → F32
  sinf : F32 → F32
  sqrt3 : F32

/-- Parameter P_BC23_COLOUR_MODE (R18). -/
inductive ColourMode where
  | compare
  | force4
deriving DecidableEq, Repr, Inhabited

/-- Parameter P_ALPHA_EMPTY5 (R27). -/
inductive AlphaEmpty5 where
  | otherRange
  | collapse
deriving DecidableEq, Repr, Inhabited

/-- The parameters of one core that its behaviour depends on. -/
structure Params where
  /-- P_LIBM (R16) -/
  libm : Libm
  /-- P_SCF_LUT (R17, R300): `LUT[b][s][t]` -/
  lut : ChannelDepth → CodebookSize → Byte → ScfEntry
  /-- P_BC23_COLOUR_MODE (R18) -/
  bc23ColourMode : ColourMode
  /-- P_ALPHA_EMPTY5 (R27) -/
  alphaEmpty5 : AlphaEmpty5

/-- The spec's default P_LIBM (R16): the correctly rounded functions, `sqrt3 = 0x3FDDB3D7`. Log entry 6. -/
def Config.libmDefault : Libm where
  atan2f := atan2fDefault
  powf := powfDefault
  cosf := cosfDefault
  sinf := sinfDefault
  sqrt3 := ⟨0x3FDDB3D7#32⟩

/-- P_BC23_COLOUR_MODE is OPEN (R18): each implementation decides, and nothing here says which. Log entry 8. -/
opaque Config.bc23ColourMode : ColourMode

/-- The value a host read of a register other than STATUS returns while the core is busy (`70_reset_and_hazards.md` R490,
`93_implementation_defined.md` I1): any value, independently for each read, drawn by the read's number. Log entry 10. -/
opaque Config.busyRead : Nat → Word

/-- `FloatToInt` of a NaN, which never arises (`93_implementation_defined.md` I16). Log entry 13. -/
opaque Config.floatToIntOfNaN : F32 → Nat

/-- The parameters of the machine: the spec's defaults where it gives one (R16, R17, R27), the open constant where it gives
none (R18). Log entries 6 to 9. -/
def Config.params : Params where
  libm := Config.libmDefault
  lut := scfLutDefault
  bc23ColourMode := Config.bc23ColourMode
  alphaEmpty5 := .otherRange

end Sys2Proof
end

