-- ==== Sys2Proof/Machine/Vector.lean ====
section
/-! DEFINITION. The vector math layer (`40_vector_math.md` R152 to R160) over the scalar datapath of
`Machine/Float.lean`. -/

namespace Sys2Proof

/-- A lane-wise operation on two `Vec3` (R154). -/
def Vec3.zip (f : F32 → F32 → F32) (u v : Vec3) : Vec3 := ⟨f u.x v.x, f u.y v.y, f u.z v.z⟩
/-- A lane-wise operation on one `Vec3`. -/
def Vec3.map (f : F32 → F32) (v : Vec3) : Vec3 := ⟨f v.x, f v.y, f v.z⟩
/-- `Vec3(c)` (R154). -/
def Vec3.splat (c : F32) : Vec3 := ⟨c, c, c⟩
/-- `u + v` (R154). -/
def Vec3.add (u v : Vec3) : Vec3 := Vec3.zip F32.add u v
/-- `u - v` (R154). -/
def Vec3.sub (u v : Vec3) : Vec3 := Vec3.zip F32.sub u v
/-- `u * v`, lane-wise (R154). -/
def Vec3.mul (u v : Vec3) : Vec3 := Vec3.zip F32.mul u v
/-- `s * v` (R154). -/
def Vec3.scale (s : F32) (v : Vec3) : Vec3 := v.map (fun l => s.mul l)
/-- `v / s` (R154): one reciprocal, then three products. -/
def Vec3.divScalar (v : Vec3) (s : F32) : Vec3 :=
  let t := F32.one.div s
  v.map (fun l => l.mul t)
/-- `Dot(u, v)` (R154). -/
def Vec3.dot (u v : Vec3) : F32 := ((u.x.mul v.x).add (u.y.mul v.y)).add (u.z.mul v.z)
/-- `LengthSquared(v)` (R154). -/
def Vec3.lengthSquared (v : Vec3) : F32 := v.dot v
/-- `Min`, lane-wise (R152, R154). -/
def Vec3.min (u v : Vec3) : Vec3 := Vec3.zip F32.min u v
/-- `Max`, lane-wise (R152, R154). -/
def Vec3.max (u v : Vec3) : Vec3 := Vec3.zip F32.max u v
/-- `Truncate`, lane-wise (R153, R154). -/
def Vec3.trunc (v : Vec3) : Vec3 := v.map F32.trunc
/-- The lane of a colour channel: 0 R, 1 G, 2 B (R33). -/
def Vec3.lane (v : Vec3) (c : Fin 3) : F32 :=
  match c with
  | 0 => v.x
  | 1 => v.y
  | 2 => v.z
/-- `v` with one lane replaced. -/
def Vec3.setLane (v : Vec3) (c : Fin 3) (l : F32) : Vec3 :=
  match c with
  | 0 => { v with x := l }
  | 1 => { v with y := l }
  | 2 => { v with z := l }
/-- Are all three lanes finite (R331)? -/
def Vec3.isFinite (v : Vec3) : Bool := v.x.isFinite && v.y.isFinite && v.z.isFinite

/-- A lane-wise operation on two `Vec4` (R155). -/
def Vec4.zip (f : F32 → F32 → F32) (u v : Vec4) : Vec4 := ⟨f u.x v.x, f u.y v.y, f u.z v.z, f u.w v.w⟩
/-- A lane-wise operation on one `Vec4`. -/
def Vec4.map (f : F32 → F32) (v : Vec4) : Vec4 := ⟨f v.x, f v.y, f v.z, f v.w⟩
/-- `Vec4(c)` (R155). -/
def Vec4.splat (c : F32) : Vec4 := ⟨c, c, c, c⟩
/-- `u + v` (R155). -/
def Vec4.add (u v : Vec4) : Vec4 := Vec4.zip F32.add u v
/-- `u - v` (R155). -/
def Vec4.sub (u v : Vec4) : Vec4 := Vec4.zip F32.sub u v
/-- `u * v`, lane-wise (R155). -/
def Vec4.mul (u v : Vec4) : Vec4 := Vec4.zip F32.mul u v
/-- `MultiplyAdd(a, b, c) = a*b + c`, two roundings (R155). -/
def Vec4.multiplyAdd (a b c : Vec4) : Vec4 := (a.mul b).add c
/-- `NegativeMultiplySubtract(a, b, c) = c - a*b`, two roundings (R155). -/
def Vec4.negativeMultiplySubtract (a b c : Vec4) : Vec4 := c.sub (a.mul b)
/-- `Reciprocal(v)` (R155). -/
def Vec4.reciprocal (v : Vec4) : Vec4 := v.map (fun l => F32.one.div l)
/-- `SplatX(v)` (R155). -/
def Vec4.splatX (v : Vec4) : Vec4 := Vec4.splat v.x
/-- `SplatY(v)` (R155). -/
def Vec4.splatY (v : Vec4) : Vec4 := Vec4.splat v.y
/-- `SplatZ(v)` (R155). -/
def Vec4.splatZ (v : Vec4) : Vec4 := Vec4.splat v.z
/-- `SplatW(v)` (R155). -/
def Vec4.splatW (v : Vec4) : Vec4 := Vec4.splat v.w
/-- `Min`, lane-wise (R152). -/
def Vec4.min (u v : Vec4) : Vec4 := Vec4.zip F32.min u v
/-- `Max`, lane-wise (R152). -/
def Vec4.max (u v : Vec4) : Vec4 := Vec4.zip F32.max u v
/-- `Truncate`, lane-wise (R153). -/
def Vec4.trunc (v : Vec4) : Vec4 := v.map F32.trunc
/-- `CompareAnyLessThan(u, v)` (R155). -/
def Vec4.compareAnyLessThan (u v : Vec4) : Bool :=
  u.x.lt v.x || u.y.lt v.y || u.z.lt v.z || u.w.lt v.w
/-- `GetVec3(v)` (R155). -/
def Vec4.getVec3 (v : Vec4) : Vec3 := ⟨v.x, v.y, v.z⟩

/-- `Min(1, Max(0, x))` (R152, R157). -/
def F32.clamp01 (x : F32) : F32 := F32.one.min (F32.zero.max x)
/-- `Clamp01(v)` (R157). -/
def Vec3.clamp01 (v : Vec3) : Vec3 := (Vec3.splat F32.one).min ((Vec3.splat F32.zero).max v)

/-- `f32(1/31)` (R158). -/
def rcp31 : F32 := ⟨0x3D042108#32⟩
/-- `f32(1/63)` (R158). -/
def rcp63 : F32 := ⟨0x3C820821#32⟩
/-- `31.0`. -/
def f31 : F32 := ⟨0x41F80000#32⟩
/-- `63.0`. -/
def f63 : F32 := ⟨0x427C0000#32⟩
/-- `255.0`. -/
def f255 : F32 := ⟨0x437F0000#32⟩
/-- `256.0`. -/
def f256 : F32 := ⟨0x43800000#32⟩
/-- `f32(1/3)`. -/
def third : F32 := ⟨0x3EAAAAAB#32⟩
/-- `f32(2/3)`. -/
def twoThirds : F32 := ⟨0x3F2AAAAB#32⟩

/-- `grid` of R158 (P_GRID, R14). -/
def grid3 : Vec3 := ⟨f31, f63, f31⟩
/-- `gridrcp` of R158. -/
def gridRcp3 : Vec3 := ⟨rcp31, rcp63, rcp31⟩

/-- `QuantiseGrid(v)` (R158). -/
def quantiseGrid (v : Vec3) : Vec3 :=
  ((grid3.mul v).add (Vec3.splat F32.half)).trunc.mul gridRcp3

/-- `FloatToInt(x, limit)` (R159). An infinite operand, which the product of R330 gives for a finite lane of great magnitude,
is clamped like every lane outside [0, 1] (R330, R331). A NaN never arises: there the result is a free value, clamped like any
other. DEDUCED, log entry 13. -/
def floatToInt (x : F32) (limit : Nat) : Nat :=
  let y := x.add F32.half
  match y.toInt? with
  | some i => if i < 0 then 0 else Nat.min i.toNat limit
  | none =>
    if y.isNaN then Nat.min (Config.floatToIntOfNaN x) limit
    else if F32.zero.lt y then limit else 0

/-- The perceptual weights of P_METRIC (R13), each the binary32 value nearest the decimal. -/
def perceptualMetric : Vec3 := ⟨⟨0x3E59B3D0#32⟩, ⟨0x3F371759#32⟩, ⟨0x3D93DD98#32⟩⟩

end Sys2Proof
end

