-- ==== Sys2Proof/Machine/Operands.lean ====
section
/-! DEFINITION. The operand forms: the configuration word and its views (`30_encoding.md` R104 to R107), the byte lanes of a
texel register (`10_state.md` R31), the bytes of the block buffer (R32), and the packed views of the point-set and
fit-result files (R33). -/

namespace Sys2Proof.Machine

/-- `Normalise(raw)` (R105). -/
def normalise (raw : BitVec 9) : BitVec 9 :=
  let method := raw &&& 0x007#9
  let fit := raw &&& 0x118#9
  let metric := raw &&& 0x060#9
  let extra := raw &&& 0x080#9
  let method := if method ≠ 0x002#9 ∧ method ≠ 0x004#9 then 0x001#9 else method
  let fit := if fit ≠ 0x010#9 ∧ fit ≠ 0x100#9 then 0x008#9 else fit
  let metric := if metric ≠ 0x040#9 then 0x020#9 else metric
  method ||| fit ||| metric ||| extra

/-- `isBC1(f)` (R106). -/
def isBC1 (f : BitVec 9) : Bool := f.getLsbD 0
/-- `isBC2(f)` (R106). -/
def isBC2 (f : BitVec 9) : Bool := f.getLsbD 1
/-- `isBC3(f)` (R106). -/
def isBC3 (f : BitVec 9) : Bool := f.getLsbD 2
/-- `isRange(f)` (R106). -/
def isRange (f : BitVec 9) : Bool := f.getLsbD 4
/-- `isPerceptual(f)` (R106). -/
def isPerceptual (f : BitVec 9) : Bool := f.getLsbD 5
/-- `wba(f)` (R106). -/
def wba (f : BitVec 9) : Bool := f.getLsbD 7
/-- `isIterative(f)` (R106). -/
def isIterative (f : BitVec 9) : Bool := f.getLsbD 8
/-- `bytesPerBlock(f)` (R106). -/
def bytesPerBlock (f : BitVec 9) : Nat := if isBC1 f then 8 else 16
/-- `colourOff(f) ≠ 0` (R106): whether the colour sub-block is the upper half, bytes 8..15, of the block buffer. -/
def colourHigh (f : BitVec 9) : Bool := !isBC1 f

/-- `Metric(f)` (R160). -/
def metric3 (f : BitVec 9) : Vec3 :=
  if isPerceptual f then perceptualMetric else Vec3.splat F32.one

/-- The metric's `Vec4` form (R160): `w` is 0.0 in the perceptual case and 1.0 in the uniform one. -/
def metric4 (f : BitVec 9) : Vec4 :=
  let m := metric3 f
  ⟨m.x, m.y, m.z, if isPerceptual f then F32.zero else F32.one⟩

/-- `TEXEL[i][7:0]` (R31). -/
def texelR (t : Word) : Byte := t.extractLsb' 0 8
/-- `TEXEL[i][15:8]` (R31). -/
def texelG (t : Word) : Byte := t.extractLsb' 8 8
/-- `TEXEL[i][23:16]` (R31). -/
def texelB (t : Word) : Byte := t.extractLsb' 16 8
/-- `TEXEL[i][31:24]` (R31). -/
def texelA (t : Word) : Byte := t.extractLsb' 24 8
/-- `R | G << 8 | B << 16 | A << 24` (R345). -/
def texelOf (c : Rgba) : Word := c.a ++ c.b ++ c.g ++ c.r
/-- `t` with its A lane replaced and its R, G, B lanes kept (R72). -/
def withAlpha (t : Word) (a : Byte) : Word := a ++ t.extractLsb' 0 24
/-- Do two texels have the same R, G and B (R190)? -/
def sameRgb (t u : Word) : Bool :=
  texelR t == texelR u && texelG t == texelG u && texelB t == texelB u

/-- Byte `k` of a register word (R71). -/
def wordByte (w : Word) (k : Fin 4) : Byte := w.extractLsb' (8 * k.val) 8
/-- The word of four bytes, the first in bits 7..0 (R71). -/
def wordOfBytes (b0 b1 b2 b3 : Byte) : Word := b3 ++ b2 ++ b1 ++ b0

/-- Byte `4w + k` of the block buffer (R32). -/
def State.blockByte (s : State) (n : Fin 16) : Byte :=
  wordByte (s.block[n.val / 4]'(by omega)) ⟨n.val % 4, by omega⟩

/-- The eight bytes of one half of the block buffer: bytes 0..7, or bytes 8..15 if `high` (R32). -/
def State.blockHalf (s : State) (high : Bool) : Vector Byte 8 :=
  Vector.ofFn fun k => s.blockByte ⟨(if high then 8 else 0) + k.val, by split <;> omega⟩

/-- Write the eight bytes of one half of the block buffer; the other half keeps its bytes (R32, R233). -/
def State.writeBlockHalf (s : State) (high : Bool) (b : Vector Byte 8) : State :=
  let lo := wordOfBytes b[0] b[1] b[2] b[3]
  let hi := wordOfBytes b[4] b[5] b[6] b[7]
  { s with block := if high then #v[s.block[0], s.block[1], lo, hi] else #v[lo, hi, s.block[2], s.block[3]] }

/-- Write all sixteen texel registers, every lane (R345). -/
def State.writeTexels (s : State) (out : Vector Rgba 16) : State :=
  { s with texel := Vector.ofFn fun i => texelOf (out[i]) }

/-- Write the A lane of all sixteen texel registers (R72, R376, R395). -/
def State.writeAlphas (s : State) (a : Vector Byte 16) : State :=
  { s with texel := Vector.ofFn fun i => withAlpha (s.texel[i]) (a[i]) }

/-- Is slot `i` valid in mask `m` (R36)? -/
def slotValid (m : BitVec 16) (i : Fin 16) : Bool := m.getLsbD i.val

/-- FIT_IDX (R33): `S.fit_idx[i]` at bits [2i+1:2i]. -/
def packIdx (v : Vector (BitVec 2) 16) : Word :=
  slots.foldl (fun w i => w ||| ((v[i]).zeroExtend 32 : Word) <<< (2 * i.val)) 0#32

/-- The sixteen 2-bit fields of a FIT_IDX word (R33). -/
def unpackIdx (w : Word) : Vector (BitVec 2) 16 :=
  Vector.ofFn fun i => w.extractLsb' (2 * i.val) 2

/-- PS_REMAP0 and PS_REMAP1 (R33): the low 4 bits of eight remap entries from slot `base` on; INVALID reads as 0. -/
def packRemap (v : Vector (Option (Fin 16)) 16) (high : Bool) : Word :=
  (List.finRange 8).foldl
    (fun w i =>
      let e := v[(if high then 8 else 0) + i.val]'(by split <;> omega)
      w ||| (BitVec.ofNat 32 (match e with | none => 0 | some k => k.val) <<< (4 * i.val)))
    0#32

/-- PS_RVALID (R33): bit `i` is 1 iff slot `i`'s remap entry is not INVALID. -/
def packRemapValid (v : Vector (Option (Fin 16)) 16) : Word :=
  slots.foldl (fun w i => if (v[i]).isSome then w ||| (1#32 <<< i.val) else w) 0#32

/-- ORDER[m] (R33): bytes `4m .. 4m+3` of the ordering history, little-endian. -/
def orderWord (o : Vector Byte 128) (m : Fin 32) : Word :=
  wordOfBytes (o[4 * m.val]'(by omega)) (o[4 * m.val + 1]'(by omega)) (o[4 * m.val + 2]'(by omega))
    (o[4 * m.val + 3]'(by omega))

end Sys2Proof.Machine
end

