-- ==== Sys2Proof/Machine/Flags.lean ====
section
/-! DEFINITION. The status views a host reads (`10_state.md` R38, R40 to R42), and the status updates of commands and errors
(`60_exceptions.md` R450, R452, R454). -/

namespace Sys2Proof.Machine

/-- ECFG (R38): always `Normalise(CFG)`. -/
def State.ecfg (s : State) : BitVec 9 := normalise s.cfg

/-- STATUS (R40). ECODE reads 0 while ERR is 0. -/
def State.status (s : State) : Word :=
  0#16 ++ s.lastop ++ (if s.err then s.ecode else 0#4) ++ 0#1 ++ BitVec.ofBool s.err ++ BitVec.ofBool s.done ++
    BitVec.ofBool s.busy

/-- PSINFO (R41). -/
def State.psInfo (s : State) : Word :=
  0#7 ++ s.ps.cfg ++ 0#6 ++ BitVec.ofBool s.ps.valid ++ BitVec.ofBool s.ps.transparent ++ 0#3 ++ BitVec.ofNat 5 s.ps.count

/-- The two-bit code of `S.fit_kind` (R42). -/
def FitKind.code : FitKind → BitVec 2
  | .none => 0#2
  | .single => 1#2
  | .range => 2#2
  | .cluster => 3#2

/-- FITINFO (R42). -/
def State.fitInfo (s : State) : Word :=
  0#21 ++ BitVec.ofNat 3 s.bestIter ++ BitVec.ofNat 4 s.iters ++ BitVec.ofBool s.fit.mode4 ++ BitVec.ofBool s.fit.valid ++
    s.fit.kind.code

/-- The code of an error (R451). -/
def errorCode : ErrorCode → BitVec 4
  | .illegalOp => 1#4
  | .reserved => 2#4
  | .busy => 3#4
  | .noPs => 4#4
  | .count => 5#4
  | .badAddr => 6#4
  | .roWrite => 7#4
  | .operand => 8#4

/-- `Error(c)` (R452): the core's whole error entry. It sets ERR, keeps the first code since ERR was last clear, transfers no
control and saves nothing else (R456). -/
def State.raise (s : State) (c : ErrorCode) : State :=
  { s with ecode := if s.err then s.ecode else errorCode c, err := true }

/-- A host write to STATUS (R40, R450): writing 1 to DONE clears it, writing 1 to ERR clears ERR and ECODE together (the
acknowledgment of an error, R457); every other bit is ignored. -/
def State.writeStatus (s : State) (v : Word) : State :=
  { s with
    done := s.done && !v.getLsbD 1
    err := s.err && !v.getLsbD 2
    ecode := if v.getLsbD 2 then 0#4 else s.ecode }

/-- The acceptance of a command (R450): DONE cleared, LASTOP and `S.pending` the OP, busy. -/
def State.accept (s : State) (op : Byte) : State :=
  { s with done := false, lastop := op, pending := op, busy := true }

/-- The end of a step that completed (R452, R454): DONE set, ERR and ECODE as they were, not busy. -/
def State.complete (s : State) : State := { s with done := true, busy := false }

/-- The end of a step that raised `c` (R452, R454): the status update of `Error(c)` and nothing else, DONE as it was, not
busy. -/
def State.abort (s : State) (c : ErrorCode) : State := { s.raise c with busy := false }

/-- One command step (R454): `body` is the command's pseudocode, which either raises an error before its first state change
or gives the state it leaves. -/
def runCommand (body : State → Except ErrorCode State) (s : State) : Host.Outcome State Fault Refusal :=
  match body s with
  | .ok t => .next t.complete
  | .error c => .next (s.abort c)

end Sys2Proof.Machine
end

