-- ==== Sys2Proof/Machine/Ops.lean ====
section
/-! DEFINITION. The register port: the register map (`10_state.md` R33), a host's reads and writes with their acceptance
checks (`60_exceptions.md` R450, R453; `70_reset_and_hazards.md` R490), and reset (R480). -/

namespace Sys2Proof.Machine

/-- The registers of the map of R33. -/
inductive Reg where
  | cfg
  | mask
  | cmd
  | status
  | ecfg
  | psInfo
  | fitInfo
  | bestErr
  | bestErrI
  | aerr5
  | aerr7
  | texel (i : Fin 16)
  | block (w : Fin 4)
  | fitStart (c : Fin 3)
  | fitEnd (c : Fin 3)
  | fitIdx
  | psRemap0
  | psRemap1
  | psRvalid
  | psPoint (k : Fin 16) (c : Fin 3)
  | psWeight (k : Fin 16)
  | order (m : Fin 32)
deriving DecidableEq, Repr

/-- The byte offset of a register (R33). -/
def regOffset : Reg → Nat
  | .cfg => 0x000
  | .mask => 0x004
  | .cmd => 0x008
  | .status => 0x00C
  | .ecfg => 0x010
  | .psInfo => 0x014
  | .fitInfo => 0x018
  | .bestErr => 0x01C
  | .bestErrI => 0x020
  | .aerr5 => 0x024
  | .aerr7 => 0x028
  | .texel i => 0x040 + 4 * i.val
  | .block w => 0x080 + 4 * w.val
  | .fitStart c => 0x090 + 4 * c.val
  | .fitEnd c => 0x09C + 4 * c.val
  | .fitIdx => 0x0A8
  | .psRemap0 => 0x0B0
  | .psRemap1 => 0x0B4
  | .psRvalid => 0x0B8
  | .psPoint k c => 0x100 + 12 * k.val + 4 * c.val
  | .psWeight k => 0x1C0 + 4 * k.val
  | .order m => 0x200 + 4 * m.val

/-- The register at word `n` (offset `4n`) of the port, if R33 lists one. -/
def regAtWord (n : Nat) : Option Reg :=
  if n < 0x10 then
    match n with
    | 0 => some .cfg
    | 1 => some .mask
    | 2 => some .cmd
    | 3 => some .status
    | 4 => some .ecfg
    | 5 => some .psInfo
    | 6 => some .fitInfo
    | 7 => some .bestErr
    | 8 => some .bestErrI
    | 9 => some .aerr5
    | 10 => some .aerr7
    | _ => none
  else if n < 0x20 then some (.texel (Fin.ofNat 16 (n - 0x10)))
  else if n < 0x24 then some (.block (Fin.ofNat 4 (n - 0x20)))
  else if n < 0x27 then some (.fitStart (Fin.ofNat 3 (n - 0x24)))
  else if n < 0x2A then some (.fitEnd (Fin.ofNat 3 (n - 0x27)))
  else if n = 0x2A then some .fitIdx
  else if n = 0x2C then some .psRemap0
  else if n = 0x2D then some .psRemap1
  else if n = 0x2E then some .psRvalid
  else if n < 0x40 then none
  else if n < 0x70 then some (.psPoint (Fin.ofNat 16 ((n - 0x40) / 3)) (Fin.ofNat 3 ((n - 0x40) % 3)))
  else if n < 0x80 then some (.psWeight (Fin.ofNat 16 (n - 0x70)))
  else if n < 0xA0 then some (.order (Fin.ofNat 32 (n - 0x80)))
  else none

/-- The register at a byte offset: none if the offset is misaligned (R75) or unmapped (R76). -/
def regAt (off : BitVec 12) : Option Reg :=
  if off.toNat % 4 = 0 then regAtWord (off.toNat / 4) else none

/-- Is the register read-only (R33)? STATUS and CMD count as writable (R450). -/
def readOnly : Reg → Bool
  | .cfg | .mask | .cmd | .status | .texel _ | .block _ | .fitStart _ | .fitEnd _ | .fitIdx => false
  | .ecfg | .psInfo | .fitInfo | .bestErr | .bestErrI | .aerr5 | .aerr7 | .psRemap0 | .psRemap1 | .psRvalid
  | .psPoint _ _ | .psWeight _ | .order _ => true

/-- The value a register reads as (R33); CMD reads 0 (R37). -/
def State.regValue (s : State) : Reg → Word
  | .cfg => s.cfg.zeroExtend 32
  | .mask => s.mask.zeroExtend 32
  | .cmd => 0#32
  | .status => s.status
  | .ecfg => s.ecfg.zeroExtend 32
  | .psInfo => s.psInfo
  | .fitInfo => s.fitInfo
  | .bestErr => s.besterr.bits
  | .bestErrI => s.besterrI
  | .aerr5 => s.aerr5
  | .aerr7 => s.aerr7
  | .texel i => s.texel[i]
  | .block w => s.block[w]
  | .fitStart c => (s.fit.start.lane c).bits
  | .fitEnd c => (s.fit.stop.lane c).bits
  | .fitIdx => packIdx s.fit.idx
  | .psRemap0 => packRemap s.ps.remap false
  | .psRemap1 => packRemap s.ps.remap true
  | .psRvalid => packRemapValid s.ps.remap
  | .psPoint k c => ((s.ps.point[k]).lane c).bits
  | .psWeight k => (s.ps.weight[k]).bits
  | .order m => orderWord s.order m

/-- A write to CMD while the core is not busy (R450): refused with E_RESERVED or E_ILLEGAL_OP, or accepted. -/
def State.writeCmd (s : State) (v : Word) : State :=
  match decode v with
  | .error .reserved => s.raise .reserved
  | .error .illegalOp => s.raise .illegalOp
  | .ok i => s.accept i.opcode

/-- Store a value in a writable register (R33, R450). A read-only register does not change (R76). -/
def State.store (s : State) (r : Reg) (v : Word) : State :=
  match r with
  | .cfg => { s with cfg := v.extractLsb' 0 9 }
  | .mask => { s with mask := v.extractLsb' 0 16 }
  | .cmd => s.writeCmd v
  | .status => s.writeStatus v
  | .texel i => { s with texel := s.texel.set i.val v }
  | .block w => { s with block := s.block.set w.val v }
  | .fitStart c => { s with fit := { s.fit with start := s.fit.start.setLane c ⟨v⟩ } }
  | .fitEnd c => { s with fit := { s.fit with stop := s.fit.stop.setLane c ⟨v⟩ } }
  | .fitIdx => { s with fit := { s.fit with idx := unpackIdx v } }
  | .ecfg | .psInfo | .fitInfo | .bestErr | .bestErrI | .aerr5 | .aerr7 | .psRemap0 | .psRemap1 | .psRvalid
  | .psPoint _ _ | .psWeight _ | .order _ => s

/-- `HostWrite(off, v)` (R450), its checks in the order of R453. -/
def State.hostWrite (s : State) (off : BitVec 12) (v : Word) : State :=
  match regAt off with
  | none => s.raise .badAddr
  | some r =>
    if readOnly r then s.raise .roWrite
    else if s.busy && r != .status then s.raise .busy
    else s.store r v

/-- `HostRead(off)` (R450); the value read is left in `rdata`. A read of a register other than STATUS while the core is busy
draws a free value (R490). CMD reads 0 before the busy test, as R450 orders them. -/
def State.hostRead (s : State) (off : BitVec 12) : State :=
  match regAt off with
  | none => { s.raise .badAddr with rdata := 0#32 }
  | some r =>
    if r = .cmd then { s with rdata := 0#32 }
    else if s.busy && r != .status then { s with rdata := Config.busyRead s.oracle, oracle := s.oracle + 1 }
    else { s with rdata := s.regValue r }

/-- `Reset()` (R480): every piece of the spec's state takes its value of R60. The model's own fields are no state of the core:
the events still to come, the number of free values drawn and the last value read stay (log entry 18). -/
def State.resetEvent (s : State) : State :=
  { State.reset with events := s.events, oracle := s.oracle, rdata := s.rdata }

end Sys2Proof.Machine
end

