-- ==== Sys2Proof/Machine/AlphaCodec.lean ====
section
/-! DEFINITION. The alpha codecs (`46_alpha_codec.md`): BC2 (R370 to R372), BC3 (R380 to R389, R392, R394) and the commands
ALPHA3_ENC (R375), ALPHA3_DEC (R376), ALPHA5_ENC (R390) and ALPHA5_DEC (R395). The four commands always address block
bytes 0..7 and do not read CFG. -/

namespace Sys2Proof.Machine

/-- `f32(15/255)` (R370). -/
def f15over255 : F32 := ⟨0x3D70F0F1#32⟩

/-- `Quant4(A)` (R370). -/
def quant4 (a : Byte) : Nat := floatToInt ((F32.ofNat a.toNat).mul f15over255) 15

/-- The nibble of slot `i` (R371): 0 for a masked-out slot. -/
def alphaNibble (T : Vector Word 16) (m : BitVec 16) (i : Fin 16) : BitVec 4 :=
  if slotValid m i then BitVec.ofNat 4 (quant4 (texelA T[i])) else 0#4

/-- `EncodeAlpha3(T, m)` (R371). -/
def encodeAlpha3 (T : Vector Word 16) (m : BitVec 16) : Vector Byte 8 :=
  Vector.ofFn fun j => alphaNibble T m ⟨2 * j.val + 1, by omega⟩ ++ alphaNibble T m ⟨2 * j.val, by omega⟩

/-- `DecodeAlpha3(bytes)` (R372): slot `2j` from the low nibble of byte `j`, slot `2j+1` from the high one, each nibble
replicated. -/
def decodeAlpha3 (bytes : Vector Byte 8) : Vector Byte 16 :=
  Vector.ofFn fun i =>
    let n : BitVec 4 := (bytes[i.val / 2]'(by omega)).extractLsb' (4 * (i.val % 2)) 4
    n ++ n

/-- The two ranges of R380. -/
structure AlphaRanges where
  min5 : Nat
  max5 : Nat
  min7 : Nat
  max7 : Nat
deriving DecidableEq, Repr

/-- The scan of R380 at one valid alpha. -/
def AlphaRanges.scan (r : AlphaRanges) (v : Nat) : AlphaRanges where
  min7 := if v < r.min7 then v else r.min7
  max7 := if r.max7 < v then v else r.max7
  min5 := if v ≠ 0 ∧ v < r.min5 then v else r.min5
  max5 := if v ≠ 255 ∧ r.max5 < v then v else r.max5

/-- `Ranges(T, m)` (R380). -/
def alphaRanges (T : Vector Word 16) (m : BitVec 16) : AlphaRanges :=
  slots.foldl (fun r i => if slotValid m i then r.scan (texelA T[i]).toNat else r) ⟨255, 0, 255, 0⟩

/-- The empty-range defaults of R381. -/
def AlphaRanges.fillEmpty (r : AlphaRanges) (e : AlphaEmpty5) : AlphaRanges :=
  let r := if r.max7 < r.min7 then { r with min7 := r.max7 } else r
  if r.max5 < r.min5 then
    match e with
    | .otherRange => { r with min5 := r.min7, max5 := r.max7 }
    | .collapse => { r with min5 := r.max5 }
  else r

/-- `FixRange(min, max, steps)` (R383), on integers. -/
def fixRange (lo hi steps : Nat) : Nat × Nat :=
  let hi' := if (hi : Int) - lo < steps then min (lo + steps) 255 else hi
  let lo' := if (hi' : Int) - lo < steps then hi' - steps else lo
  (lo', hi')

/-- `FixRange` applied to both ranges (R383, R390). -/
def AlphaRanges.fix (r : AlphaRanges) : AlphaRanges :=
  let f5 := fixRange r.min5 r.max5 5
  let f7 := fixRange r.min7 r.max7 7
  ⟨f5.1, f5.2, f7.1, f7.2⟩

/-- The 5-step codebook of R384 and R394 over endpoints `a`, `b`: entries 6 and 7 are 0 and 255. -/
def codes5 (a b : Nat) : Vector Nat 8 :=
  #v[a, b, (4 * a + 1 * b) / 5, (3 * a + 2 * b) / 5, (2 * a + 3 * b) / 5, (1 * a + 4 * b) / 5, 0, 255]

/-- The 7-step codebook of R384 and R394 over endpoints `a`, `b`. -/
def codes7 (a b : Nat) : Vector Nat 8 :=
  #v[a, b, (6 * a + 1 * b) / 7, (5 * a + 2 * b) / 7, (4 * a + 3 * b) / 7, (3 * a + 4 * b) / 7, (2 * a + 5 * b) / 7,
    (1 * a + 6 * b) / 7]

/-- `(x - y)^2`, the difference taken as a signed integer (R163). -/
def sqDiff (x y : Nat) : Nat := (((x : Int) - y) * ((x : Int) - y)).toNat

/-- The inner loop of R386: the least squared error and its index, ties to the lower index. -/
def nearestCode (v : Nat) (codes : Vector Nat 8) : Nat × Fin 8 :=
  (List.finRange 8).foldl
    (fun best j => if sqDiff v codes[j] < best.1 then (sqDiff v codes[j], j) else best)
    (2 ^ 31 - 1, 0)

/-- The index `FitCodes` gives slot `i` (R386): 0 for a masked-out slot. -/
def alphaIndex (T : Vector Word 16) (m : BitVec 16) (codes : Vector Nat 8) (i : Fin 16) : Fin 8 :=
  if slotValid m i then (nearestCode (texelA T[i]).toNat codes).2 else 0

/-- The error `FitCodes` adds for slot `i` (R386). -/
def alphaError (T : Vector Word 16) (m : BitVec 16) (codes : Vector Nat 8) (i : Fin 16) : Nat :=
  if slotValid m i then (nearestCode (texelA T[i]).toNat codes).1 else 0

/-- `FitCodes(T, m, codes)` (R386): the total error and the sixteen indices. -/
def fitCodes (T : Vector Word 16) (m : BitVec 16) (codes : Vector Nat 8) : Nat × Vector (Fin 8) 16 :=
  (slots.foldl (fun err i => err + alphaError T m codes i) 0, Vector.ofFn fun i => alphaIndex T m codes i)

/-- The 24-bit group of eight 3-bit indices from slot `8g` on (R385). -/
def alphaGroup (idx : Vector (Fin 8) 16) (g : Fin 2) : BitVec 24 :=
  (List.finRange 8).foldl
    (fun v j => v ||| BitVec.ofNat 24 (idx[8 * g.val + j.val]'(by omega)).val <<< (3 * j.val)) 0#24

/-- `WriteAlphaBlock(a0, a1, idx)` (R385). -/
def writeAlphaBlock (a0 a1 : Nat) (idx : Vector (Fin 8) 16) : Vector Byte 8 :=
  let g0 := alphaGroup idx 0
  let g1 := alphaGroup idx 1
  #v[BitVec.ofNat 8 a0, BitVec.ofNat 8 a1, g0.extractLsb' 0 8, g0.extractLsb' 8 8, g0.extractLsb' 16 8,
    g1.extractLsb' 0 8, g1.extractLsb' 8 8, g1.extractLsb' 16 8]

/-- The index remap of R388: 0 and 1 swapped, 2 to 5 folded as `7 - i`, 6 and 7 kept. -/
def swapAlpha5 (i : Fin 8) : Fin 8 :=
  if i = 0 then 1 else if i = 1 then 0 else if i.val ≤ 5 then Fin.ofNat 8 (7 - i.val) else i

/-- The index remap of R389: 0 and 1 swapped, the others as `9 - i`. -/
def swapAlpha7 (i : Fin 8) : Fin 8 :=
  if i = 0 then 1 else if i = 1 then 0 else Fin.ofNat 8 (9 - i.val)

/-- `WriteAlphaBlock5(a0, a1, idx)` (R388). -/
def writeAlphaBlock5 (a0 a1 : Nat) (idx : Vector (Fin 8) 16) : Vector Byte 8 :=
  if a1 < a0 then writeAlphaBlock a1 a0 (Vector.ofFn fun i => swapAlpha5 (idx[i])) else writeAlphaBlock a0 a1 idx

/-- `WriteAlphaBlock7(a0, a1, idx)` (R389). -/
def writeAlphaBlock7 (a0 a1 : Nat) (idx : Vector (Fin 8) 16) : Vector Byte 8 :=
  if a0 < a1 then writeAlphaBlock a1 a0 (Vector.ofFn fun i => swapAlpha7 (idx[i])) else writeAlphaBlock a0 a1 idx

/-- What the BC3 alpha encoder computes (R390): the block and the two errors. -/
structure Alpha5Result where
  bytes : Vector Byte 8
  e5 : Nat
  e7 : Nat
deriving DecidableEq, Repr

/-- The ranges the encoder's codebooks are built from (R380, R381, R383). -/
def encoderRanges (p : Params) (T : Vector Word 16) (m : BitVec 16) : AlphaRanges :=
  ((alphaRanges T m).fillEmpty p.alphaEmpty5).fix

/-- The BC3 alpha encoder (R390): ranges, defaults, FixRange, codebooks, and the choice of R387, on equal error the 5-step
scheme. -/
def encodeAlpha5 (p : Params) (T : Vector Word 16) (m : BitVec 16) : Alpha5Result :=
  let r := encoderRanges p T m
  let c5 := fitCodes T m (codes5 r.min5 r.max5)
  let c7 := fitCodes T m (codes7 r.min7 r.max7)
  { bytes := if c5.1 ≤ c7.1 then writeAlphaBlock5 r.min5 r.max5 c5.2 else writeAlphaBlock7 r.min7 r.max7 c7.2
    e5 := c5.1
    e7 := c7.1 }

/-- `UnpackAlphaIndices(bytes)` (R392): the index of slot `i`. -/
def unpackAlphaIndex (bytes : Vector Byte 8) (i : Fin 16) : Fin 8 :=
  let g := i.val / 8
  let v : BitVec 24 :=
    (bytes[4 + 3 * g]'(by omega)) ++ (bytes[3 + 3 * g]'(by omega)) ++ (bytes[2 + 3 * g]'(by omega))
  (v.extractLsb' (3 * (i.val % 8)) 3).toFin

/-- `DecodeCodebook(alpha0, alpha1)` (R394). -/
def decodeAlphaCodebook (a0 a1 : Byte) : Vector Nat 8 :=
  if a0.toNat ≤ a1.toNat then codes5 a0.toNat a1.toNat else codes7 a0.toNat a1.toNat

/-- The BC3 alpha decoder (R395). -/
def decodeAlpha5 (bytes : Vector Byte 8) : Vector Byte 16 :=
  let code := decodeAlphaCodebook bytes[0] bytes[1]
  Vector.ofFn fun i => BitVec.ofNat 8 code[unpackAlphaIndex bytes i]

/-- The state the BC2 alpha encoder leaves, under mask `m` (R375, R411). -/
def State.putAlpha3 (s : State) (m : BitVec 16) : State := s.writeBlockHalf false (encodeAlpha3 s.texel m)

/-- The state the BC3 alpha encoder leaves, under mask `m` (R390, R411). -/
def State.putAlpha5 (p : Params) (s : State) (m : BitVec 16) : State :=
  let r := encodeAlpha5 p s.texel m
  { s.writeBlockHalf false r.bytes with aerr5 := BitVec.ofNat 32 r.e5, aerr7 := BitVec.ofNat 32 r.e7 }

/-- ALPHA3_ENC (R375). -/
def alpha3EncBody (s : State) : Except ErrorCode State := .ok (s.putAlpha3 s.mask)

/-- ALPHA3_DEC (R376). -/
def alpha3DecBody (s : State) : Except ErrorCode State := .ok (s.writeAlphas (decodeAlpha3 (s.blockHalf false)))

/-- ALPHA5_ENC (R390). -/
def alpha5EncBody (p : Params) (s : State) : Except ErrorCode State := .ok (s.putAlpha5 p s.mask)

/-- ALPHA5_DEC (R395). -/
def alpha5DecBody (s : State) : Except ErrorCode State := .ok (s.writeAlphas (decodeAlpha5 (s.blockHalf false)))

/-- ALPHA3_ENC, `OP = 0x40` (R375). -/
def execAlpha3Enc (s : State) : Host.Outcome State Fault Refusal := runCommand alpha3EncBody s

/-- ALPHA3_DEC, `OP = 0x41` (R376). -/
def execAlpha3Dec (s : State) : Host.Outcome State Fault Refusal := runCommand alpha3DecBody s

/-- ALPHA5_ENC, `OP = 0x42` (R390). -/
def execAlpha5Enc (s : State) : Host.Outcome State Fault Refusal := runCommand (alpha5EncBody Config.params) s

/-- ALPHA5_DEC, `OP = 0x43` (R395). -/
def execAlpha5Dec (s : State) : Host.Outcome State Fault Refusal := runCommand alpha5DecBody s

end Sys2Proof.Machine
end

