-- ==== Sys2Proof/Machine/ColourCodec.lean ====
section
/-! DEFINITION. The 5:6:5 quantiser, the colour packer and the colour decoder (`45_colour_codec.md`): R330 to R334, R342,
R343 and the commands PACK3 (R340), PACK4 (R341) and COLOUR_DEC (R345). -/

namespace Sys2Proof.Machine

/-- A packed 5:6:5 colour from its fields (R110). -/
def pack565 (r g b : Nat) : BitVec 16 := BitVec.ofNat 16 ((r <<< 11) ||| (g <<< 5) ||| b)

/-- `FloatTo565(c)` (R330). -/
def floatTo565 (c : Vec3) : BitVec 16 :=
  pack565 (floatToInt (f31.mul c.x) 31) (floatToInt (f63.mul c.y) 63) (floatToInt (f31.mul c.z) 31)

/-- One index row of R332: four 2-bit indices, the first in the low bits (R121). -/
def indexRow (i0 i1 i2 i3 : BitVec 2) : Byte := i3 ++ i2 ++ i1 ++ i0

/-- `WriteColourBlock(a, b, idx)` (R332). -/
def writeColourBlock (a b : BitVec 16) (idx : Vector (BitVec 2) 16) : Vector Byte 8 :=
  #v[a.extractLsb' 0 8, a.extractLsb' 8 8, b.extractLsb' 0 8, b.extractLsb' 8 8,
    indexRow idx[0] idx[1] idx[2] idx[3], indexRow idx[4] idx[5] idx[6] idx[7],
    indexRow idx[8] idx[9] idx[10] idx[11], indexRow idx[12] idx[13] idx[14] idx[15]]

/-- The index exchange of R333: 0 and 1 swapped, 2 and 3 kept. -/
def swapIndex3 (i : BitVec 2) : BitVec 2 := if i = 0#2 then 1#2 else if i = 1#2 then 0#2 else i

/-- The index exchange of R334: `i XOR 1`. -/
def swapIndex4 (i : BitVec 2) : BitVec 2 := i ^^^ 1#2

/-- R333 from packed endpoints on: a block with `a ≤ b`. -/
def packBlock3 (a b : BitVec 16) (idx : Vector (BitVec 2) 16) : Vector Byte 8 :=
  if a.toNat ≤ b.toNat then writeColourBlock a b idx
  else writeColourBlock b a (Vector.ofFn fun i => swapIndex3 (idx[i]))

/-- R334 from packed endpoints on: a block with `a ≥ b`, every index 0 if `a = b`. -/
def packBlock4 (a b : BitVec 16) (idx : Vector (BitVec 2) 16) : Vector Byte 8 :=
  if a.toNat < b.toNat then writeColourBlock b a (Vector.ofFn fun i => swapIndex4 (idx[i]))
  else if a = b then writeColourBlock a b (Vector.replicate 16 0#2)
  else writeColourBlock a b idx

/-- `WriteColourBlock3(start, end, idx)` (R333). -/
def writeColourBlock3 (start stop : Vec3) (idx : Vector (BitVec 2) 16) : Vector Byte 8 :=
  packBlock3 (floatTo565 start) (floatTo565 stop) idx

/-- `WriteColourBlock4(start, end, idx)` (R334). -/
def writeColourBlock4 (start stop : Vec3) (idx : Vector (BitVec 2) 16) : Vector Byte 8 :=
  packBlock4 (floatTo565 start) (floatTo565 stop) idx

/-- `Unpack565(v)` (R342): each field expanded to 8 bits by replication. -/
def unpack565 (v : BitVec 16) : Rgba :=
  let r5 := v.extractLsb' 11 5
  let g6 := v.extractLsb' 5 6
  let b5 := v.extractLsb' 0 5
  ⟨r5 ++ r5.extractLsb' 2 3, g6 ++ g6.extractLsb' 4 2, b5 ++ b5.extractLsb' 2 3, 255#8⟩

/-- Does a block with packed endpoints `a`, `b` decode in 3-colour mode (R122, R343)? -/
def threeColour (mode : ColourMode) (dxt1 : Bool) (a b : BitVec 16) : Bool :=
  decide (a.toNat ≤ b.toNat) && (dxt1 || mode == .compare)

/-- One channel of code 2 (R343). -/
def code2Channel (three : Bool) (c d : Byte) : Byte :=
  BitVec.ofNat 8 (if three then (c.toNat + d.toNat) / 2 else (2 * c.toNat + d.toNat) / 3)

/-- One channel of code 3 (R343). -/
def code3Channel (three : Bool) (c d : Byte) : Byte :=
  BitVec.ofNat 8 (if three then 0 else (c.toNat + 2 * d.toNat) / 3)

/-- The four-entry codebook of R343 (R344: code 3 of 3-colour mode is transparent black). -/
def colourCodebook (mode : ColourMode) (dxt1 : Bool) (a b : BitVec 16) : Vector Rgba 4 :=
  let three := threeColour mode dxt1 a b
  let p := unpack565 a
  let q := unpack565 b
  #v[p, q,
    ⟨code2Channel three p.r q.r, code2Channel three p.g q.g, code2Channel three p.b q.b, 255#8⟩,
    ⟨code3Channel three p.r q.r, code3Channel three p.g q.g, code3Channel three p.b q.b, if three then 0#8 else 255#8⟩]

/-- Endpoint `a` of a colour sub-block (R121). -/
def endpointA (bytes : Vector Byte 8) : BitVec 16 := bytes[1] ++ bytes[0]
/-- Endpoint `b` of a colour sub-block (R121). -/
def endpointB (bytes : Vector Byte 8) : BitVec 16 := bytes[3] ++ bytes[2]

/-- The 2-bit index of slot `i` of a colour sub-block (R121). -/
def colourIndex (bytes : Vector Byte 8) (i : Fin 16) : Fin 4 :=
  ((bytes[4 + i.val / 4]'(by omega)).extractLsb' (2 * (i.val % 4)) 2).toFin

/-- `DecodeColour(bytes, dxt1)` (R343). -/
def decodeColour (mode : ColourMode) (bytes : Vector Byte 8) (dxt1 : Bool) : Vector Rgba 16 :=
  let code := colourCodebook mode dxt1 (endpointA bytes) (endpointB bytes)
  Vector.ofFn fun i => code[colourIndex bytes i]

/-- Are all six endpoint lanes finite (R331)? -/
def FitResult.endpointsFinite (r : FitResult) : Bool := r.start.isFinite && r.stop.isFinite

/-- PACK3 (R340). -/
def pack3Body (s : State) : Except ErrorCode State :=
  if s.fit.endpointsFinite then
    .ok (s.writeBlockHalf (colourHigh (normalise s.cfg)) (writeColourBlock3 s.fit.start s.fit.stop s.fit.idx))
  else .error .operand

/-- PACK4 (R341). -/
def pack4Body (s : State) : Except ErrorCode State :=
  if s.fit.endpointsFinite then
    .ok (s.writeBlockHalf (colourHigh (normalise s.cfg)) (writeColourBlock4 s.fit.start s.fit.stop s.fit.idx))
  else .error .operand

/-- COLOUR_DEC (R345). -/
def colourDecBody (p : Params) (s : State) : Except ErrorCode State :=
  let f := normalise s.cfg
  .ok (s.writeTexels (decodeColour p.bc23ColourMode (s.blockHalf (colourHigh f)) (isBC1 f)))

/-- PACK3, `OP = 0x30` (R340). -/
def execPack3 (s : State) : Host.Outcome State Fault Refusal := runCommand pack3Body s

/-- PACK4, `OP = 0x31` (R341). -/
def execPack4 (s : State) : Host.Outcome State Fault Refusal := runCommand pack4Body s

/-- COLOUR_DEC, `OP = 0x32` (R345). -/
def execColourDec (s : State) : Host.Outcome State Fault Refusal := runCommand (colourDecBody Config.params) s

end Sys2Proof.Machine
end

