-- ==== Sys2Proof/Machine/PointSet.lean ====
section
/-! DEFINITION. The colour point-set builder (`41_pointset.md`): R190 to R192, the remap helper R196 and the command
PS_BUILD (R195). -/

namespace Sys2Proof.Machine

/-- `Normalise8(T)` (R191). -/
def normalise8 (t : Word) : Vec3 :=
  ⟨(F32.ofNat (texelR t).toNat).div f255, (F32.ofNat (texelG t).toNat).div f255, (F32.ofNat (texelB t).toNat).div f255⟩

/-- `TexelWeight(T, f)` (R192). -/
def texelWeight (t : Word) (f : BitVec 9) : F32 :=
  if wba f then (F32.ofNat ((texelA t).toNat + 1)).div f256 else F32.one

/-- The builder's loop state (R190): the files being written, with the weights not yet square-rooted. -/
structure BuildAcc where
  point : Vector Vec3 16
  weight : Vector F32 16
  remap : Vector (Option (Fin 16)) 16
  count : Nat
  transparent : Bool
deriving DecidableEq, Repr

/-- The builder before slot 0. Unused entries hold the +0.0 that R190 leaves in them. -/
def BuildAcc.start : BuildAcc :=
  ⟨Vector.replicate 16 zeroVec3, Vector.replicate 16 F32.zero, Vector.replicate 16 none, 0, false⟩

/-- Does the earlier slot `j` take part in the merge test of R190: valid and, for BC1, opaque? -/
def mergeable (m : BitVec 16) (dxt1 : Bool) (t : Word) (j : Fin 16) : Bool :=
  slotValid m j && (decide (128 ≤ (texelA t).toNat) || !dxt1)

/-- The first earlier slot whose colour slot `i` merges with (R190). -/
def mergeSlot (T : Vector Word 16) (m : BitVec 16) (dxt1 : Bool) (i : Fin 16) : Option (Fin 16) :=
  slots.find? fun j => decide (j < i) && mergeable m dxt1 T[j] j && sameRgb T[i] T[j]

/-- R190, a slot with no earlier match: a new point. -/
def BuildAcc.addPoint (a : BuildAcc) (i : Fin 16) (p : Vec3) (w : F32) : BuildAcc :=
  { a with
    point := a.point.setIfInBounds a.count p
    weight := a.weight.setIfInBounds a.count w
    remap := a.remap.set i (some (Fin.ofNat 16 a.count))
    count := a.count + 1 }

/-- R190, a slot that merges into point `k`. -/
def BuildAcc.mergeInto (a : BuildAcc) (i k : Fin 16) (w : F32) : BuildAcc :=
  { a with
    weight := a.weight.set k ((a.weight[k]).add w)
    remap := a.remap.set i (some k) }

/-- One slot of the loop of R190. The remap entry of a slot the merge test found is never INVALID (R190); that arm is there
for totality only. -/
def buildSlot (T : Vector Word 16) (m : BitVec 16) (f : BitVec 9) (a : BuildAcc) (i : Fin 16) : BuildAcc :=
  if !slotValid m i then { a with remap := a.remap.set i none }
  else if isBC1 f && decide ((texelA T[i]).toNat < 128) then
    { a with remap := a.remap.set i none, transparent := true }
  else
    match mergeSlot T m (isBC1 f) i with
    | none => a.addPoint i (normalise8 T[i]) (texelWeight T[i] f)
    | some j =>
      match a.remap[j] with
      | some k => a.mergeInto i k (texelWeight T[i] f)
      | none => a

/-- The loop of R190 over all slots. -/
def buildAll (T : Vector Word 16) (m : BitVec 16) (f : BitVec 9) : BuildAcc :=
  slots.foldl (buildSlot T m f) BuildAcc.start

/-- The last loops of R190: the square root of every used weight, +0.0 in every unused entry. -/
def BuildAcc.finish (a : BuildAcc) (f : BitVec 9) : PointSet where
  valid := true
  count := a.count
  point := Vector.ofFn fun k => if k.val < a.count then a.point[k] else zeroVec3
  weight := Vector.ofFn fun k => if k.val < a.count then (a.weight[k]).sqrt else F32.zero
  remap := a.remap
  transparent := a.transparent
  cfg := f

/-- `BuildPointSet(T, m, f)` (R190), with the `S.ps_cfg` and `S.ps_valid` its callers latch (R195, R411). -/
def buildPointSet (T : Vector Word 16) (m : BitVec 16) (f : BitVec 9) : PointSet :=
  (buildAll T m f).finish f

/-- The point-set file built from the tile under mask `m` and the current configuration (R195, R411). -/
def State.withPointSet (s : State) (m : BitVec 16) : State :=
  { s with ps := buildPointSet s.texel m (normalise s.cfg) }

/-- The used points with their weights, in index order: what the fits read (R43). -/
def PointSet.used (ps : PointSet) : List (Vec3 × F32) :=
  (ps.point.toList.zip ps.weight.toList).take ps.count

/-- `RemapIndices(src)` (R196). -/
def remapIndices (remap : Vector (Option (Fin 16)) 16) (src : Vector (BitVec 2) 16) : Vector (BitVec 2) 16 :=
  Vector.ofFn fun i =>
    match remap[i] with
    | none => 3#2
    | some k => src[k]

/-- PS_BUILD (R195). -/
def psBuildBody (s : State) : Except ErrorCode State := .ok (s.withPointSet s.mask)

/-- PS_BUILD, `OP = 0x10` (R195). -/
def execPsBuild (s : State) : Host.Outcome State Fault Refusal := runCommand psBuildBody s

end Sys2Proof.Machine
end

