-- ==== Sys2Proof/Machine/FitTrial.lean ====
section
/-! DEFINITION. What the three fits share: the trial sequencing (`42_fit_range.md` R231) and the candidate write (R233). -/

namespace Sys2Proof.Machine

/-- `FitTrial(f, Trial3, Trial4)` (R231): a trial maps the state and the running best error to the next ones. -/
def fitTrial {β : Type} (f : BitVec 9) (transparent : Bool) (trial3 trial4 : State × β → State × β) (x : State × β) :
    State × β :=
  if isBC1 f then
    (if transparent then trial3 x else trial4 (trial3 x))
  else trial4 x

/-- The packed bytes of a candidate (R233). -/
def candidateBytes (mode4 : Bool) (start stop : Vec3) (idx : Vector (BitVec 2) 16) : Vector Byte 8 :=
  if mode4 then writeColourBlock4 start stop idx else writeColourBlock3 start stop idx

/-- `WriteCandidate(mode4, start, end, idx)` (R233). -/
def State.writeCandidate (s : State) (mode4 : Bool) (start stop : Vec3) (idx : Vector (BitVec 2) 16) : State :=
  State.writeBlockHalf
    { s with fit := { s.fit with start := start, stop := stop, idx := idx, mode4 := mode4, valid := true } }
    (colourHigh s.ps.cfg) (candidateBytes mode4 start stop idx)

/-- The opening of every fit command: `S.fit_kind <- kind; S.fit_valid <- false` (R235, R280, R310). -/
def State.beginFit (s : State) (kind : FitKind) : State :=
  { s with fit := { s.fit with kind := kind, valid := false } }

/-- A per-point index list as the array `src` of R196; entries past the list are not read. -/
def indexVector (l : List (BitVec 2)) : Vector (BitVec 2) 16 := Vector.ofFn fun k => l.getD k.val 0#2

end Sys2Proof.Machine
end

