-- ==== Sys2Proof/Machine/PrincipalAxis.lean ====
section
/-! DEFINITION. The weighted covariance and the principal-axis solver shared by the range and cluster fits
(`42_fit_range.md` R220 to R227). Every expression is evaluated in the order the rule writes it (R21). -/

namespace Sys2Proof.Machine

/-- The first loop of R220: total weight and weighted centroid sum. -/
def weightedSums (pts : List (Vec3 × F32)) : F32 × Vec3 :=
  pts.foldl (fun acc pw => (acc.1.add pw.2, acc.2.add (pw.1.scale pw.2))) (F32.zero, Vec3.splat F32.zero)

/-- The centroid of R220, divided only if the total passes the guard. -/
def centroid (pts : List (Vec3 × F32)) : Vec3 :=
  let t := weightedSums pts
  if F32.fltEpsilon.lt t.1 then t.2.divScalar t.1 else t.2

/-- One point's share of the covariance (R220). -/
def covarianceAdd (c : Vec3) (m : Sym3x3) (pw : Vec3 × F32) : Sym3x3 :=
  let a := pw.1.sub c
  let b := a.scale pw.2
  { xx := m.xx.add (a.x.mul b.x)
    xy := m.xy.add (a.x.mul b.y)
    xz := m.xz.add (a.x.mul b.z)
    yy := m.yy.add (a.y.mul b.y)
    yz := m.yz.add (a.y.mul b.z)
    zz := m.zz.add (a.z.mul b.z) }

/-- `Covariance()` (R220). -/
def covariance (pts : List (Vec3 × F32)) : Sym3x3 :=
  pts.foldl (covarianceAdd (centroid pts)) ⟨F32.zero, F32.zero, F32.zero, F32.zero, F32.zero, F32.zero⟩

/-- `f32(-2/27)` (R222). -/
def minusTwo27ths : F32 := ⟨0xBD97B426#32⟩
/-- `f32(1/27)` (R222). -/
def one27th : F32 := ⟨0x3D17B426#32⟩
/-- `-0.5` (R226). -/
def minusHalf : F32 := ⟨0xBF000000#32⟩
/-- `3.0` (R226). -/
def f3 : F32 := ⟨0x40400000#32⟩

/-- The coefficients of R222. -/
structure CharPoly where
  c0 : F32
  c1 : F32
  c2 : F32
  a : F32
  b : F32
  q : F32
deriving DecidableEq, Repr

/-- The characteristic-polynomial coefficients (R222). -/
def charPoly (m : Sym3x3) : CharPoly :=
  let c0 := (((((m.xx.mul m.yy).mul m.zz).add (((F32.two.mul m.xy).mul m.xz).mul m.yz)).sub
    ((m.xx.mul m.yz).mul m.yz)).sub ((m.yy.mul m.xz).mul m.xz)).sub ((m.zz.mul m.xy).mul m.xy)
  let c1 := (((((m.xx.mul m.yy).add (m.xx.mul m.zz)).add (m.yy.mul m.zz)).sub (m.xy.mul m.xy)).sub
    (m.xz.mul m.xz)).sub (m.yz.mul m.yz)
  let c2 := (m.xx.add m.yy).add m.zz
  let a := c1.sub ((third.mul c2).mul c2)
  let b := ((((minusTwo27ths.mul c2).mul c2).mul c2).add ((third.mul c1).mul c2)).sub c0
  let q := ((F32.quarter.mul b).mul b).add (((one27th.mul a).mul a).mul a)
  ⟨c0, c1, c2, a, b, q⟩

/-- `m - ev·I` (R224, R225). -/
def shiftDiagonal (m : Sym3x3) (ev : F32) : Sym3x3 :=
  { m with xx := m.xx.sub ev, yy := m.yy.sub ev, zz := m.zz.sub ev }

/-- The index of the first entry of largest magnitude among six (R224, R225: strict comparisons). -/
def largestOfSix (u0 u1 u2 u3 u4 u5 : F32) : Nat :=
  ([(u1, 1), (u2, 2), (u3, 3), (u4, 4), (u5, 5)].foldl
    (fun (best : F32 × Nat) e => if best.1.lt e.1.abs then (e.1.abs, e.2) else best) (u0.abs, 0)).2

/-- `Evector1(m, ev)` (R224). -/
def evector1 (m : Sym3x3) (ev : F32) : Vec3 :=
  let n := shiftDiagonal m ev
  let u0 := (n.yy.mul n.zz).sub (n.yz.mul n.yz)
  let u1 := (n.xz.mul n.yz).sub (n.xy.mul n.zz)
  let u2 := (n.xy.mul n.yz).sub (n.xz.mul n.yy)
  let u3 := (n.xx.mul n.zz).sub (n.xz.mul n.xz)
  let u4 := (n.xy.mul n.xz).sub (n.yz.mul n.xx)
  let u5 := (n.xx.mul n.yy).sub (n.xy.mul n.xy)
  match largestOfSix u0 u1 u2 u3 u4 u5 with
  | 0 => ⟨u0, u1, u2⟩
  | 1 => ⟨u1, u3, u4⟩
  | 3 => ⟨u1, u3, u4⟩
  | _ => ⟨u2, u4, u5⟩

/-- `Evector2(m, ev)` (R225). -/
def evector2 (m : Sym3x3) (ev : F32) : Vec3 :=
  let n := shiftDiagonal m ev
  match largestOfSix n.xx n.xy n.xz n.yy n.yz n.zz with
  | 0 => ⟨n.xy.neg, n.xx, F32.zero⟩
  | 1 => ⟨n.xy.neg, n.xx, F32.zero⟩
  | 2 => ⟨n.xz, F32.zero, n.xx.neg⟩
  | 3 => ⟨F32.zero, n.yz.neg, n.yy⟩
  | 4 => ⟨F32.zero, n.yz.neg, n.yy⟩
  | _ => ⟨F32.zero, n.zz.neg, n.yz⟩

/-- The largest eigenvalue in magnitude of the three-distinct-roots branch (R226). -/
def trigEigenvalue (lib : Libm) (c : CharPoly) : F32 :=
  let theta := lib.atan2f c.q.neg.sqrt (minusHalf.mul c.b)
  let rho := (((F32.quarter.mul c.b).mul c.b).sub c.q).sqrt
  let rt := lib.powf rho third
  let ct := lib.cosf (theta.div f3)
  let st := lib.sinf (theta.div f3)
  let t := third.mul c.c2
  let l1 := t.add ((F32.two.mul rt).mul ct)
  let l2 := t.sub (rt.mul (ct.add (lib.sqrt3.mul st)))
  let l3 := t.sub (rt.mul (ct.sub (lib.sqrt3.mul st)))
  let l1 := if l1.abs.lt l2.abs then l2 else l1
  if l1.abs.lt l3.abs then l3 else l1

/-- The cube root of the repeated-root branch (R226). -/
def repeatedRoot (lib : Libm) (c : CharPoly) : F32 :=
  if c.b.lt F32.zero then (lib.powf (minusHalf.mul c.b) third).neg else lib.powf (F32.half.mul c.b) third

/-- `PrincipalComponent(m)` (R223, R226). -/
def principalComponent (lib : Libm) (m : Sym3x3) : Vec3 :=
  let c := charPoly m
  if F32.fltEpsilon.lt c.q then Vec3.splat F32.one
  else if c.q.lt F32.fltEpsilon.neg then evector1 m (trigEigenvalue lib c)
  else
    let rt := repeatedRoot lib c
    let t := third.mul c.c2
    let l1 := t.add rt
    let l2 := t.sub (F32.two.mul rt)
    if l2.abs.lt l1.abs then evector2 m l1 else evector1 m l2

/-- The axis both fits start from (R228, R262). -/
def principalAxis (lib : Libm) (ps : PointSet) : Vec3 := principalComponent lib (covariance ps.used)

end Sys2Proof.Machine
end

