-- ==== Sys2Proof/Machine/FitCluster.lean ====
section
/-! DEFINITION. The cluster fit engine (`43_fit_cluster.md` R260 to R276) and the command FIT_CLUSTER (R280). -/

namespace Sys2Proof.Machine

/-- `itercount` (R260, P_ITER_MAX). -/
def iterCount (f : BitVec 9) : Nat := if isIterative f then 8 else 1

/-- `grid4` (R260). -/
def grid4 : Vec4 := ⟨f31, f63, f31, F32.zero⟩
/-- `gridrcp4` (R260). -/
def gridRcp4 : Vec4 := ⟨rcp31, rcp63, rcp31, F32.zero⟩
/-- `zero4` (R260). -/
def zero4 : Vec4 := Vec4.splat F32.zero
/-- `one4` (R260). -/
def one4 : Vec4 := Vec4.splat F32.one
/-- `two4` (R260). -/
def two4 : Vec4 := Vec4.splat F32.two
/-- `half4` (R260). -/
def half4 : Vec4 := Vec4.splat F32.half

/-- A point with its projection `dp` and its index `k` (R261). -/
structure Ranked where
  dp : F32
  k : Nat
  p : Vec3
  w : F32
deriving DecidableEq, Repr

/-- One step of the stable insertion sort of R261, on the sorted prefix held last element first: the new element moves down
past the elements it is strictly below. -/
def insertRanked (x : Ranked) : List Ranked → List Ranked
  | [] => [x]
  | y :: ys => if x.dp.lt y.dp then y :: insertRanked x ys else x :: y :: ys

/-- The used points sorted along the axis (R261). -/
def sortAlong (axis : Vec3) (pts : List (Vec3 × F32)) : List Ranked :=
  ((pts.zipIdx.map fun e => Ranked.mk (e.1.1.dot axis) e.2 e.1.1 e.1.2).foldl (fun acc x => insertRanked x acc) []).reverse

/-- `S.order` with ordering number `it` replaced in its first entries (R261). -/
def storeOrdering (o : Vector Byte 128) (it : Nat) (ks : List Nat) : Vector Byte 128 :=
  Vector.ofFn fun n =>
    if n.val / 16 = it ∧ n.val % 16 < ks.length then BitVec.ofNat 8 (ks.getD (n.val % 16) 0) else o[n]

/-- Byte `n` of `S.order`. -/
def orderByte (o : Vector Byte 128) (n : Nat) : Byte := o.getD n 0#8

/-- Does ordering number `prev` repeat `ks` in its first entries (R261, cycle detection)? -/
def sameOrdering (o : Vector Byte 128) (prev : Nat) (ks : List Nat) : Bool :=
  (List.range ks.length).all fun p => orderByte o (16 * prev + p) == BitVec.ofNat 8 (ks.getD p 0)

/-- The weighted point `(x, y, z, 1) * w` (R261). -/
def weightedPoint (r : Ranked) : Vec4 := Vec4.mul ⟨r.p.x, r.p.y, r.p.z, F32.one⟩ (Vec4.splat r.w)

/-- What `ConstructOrdering` gives (R261): the ordering history, whether the ordering is new, and the weighted points. -/
structure Ordering where
  order : Vector Byte 128
  fresh : Bool
  pw : List Vec4
deriving DecidableEq, Repr

/-- `ConstructOrdering(axis, it)` (R261). A repeated ordering is stored too. -/
def constructOrdering (pts : List (Vec3 × F32)) (o : Vector Byte 128) (axis : Vec3) (it : Nat) : Ordering :=
  let rs := sortAlong axis pts
  let ks := rs.map Ranked.k
  let o' := storeOrdering o it ks
  { order := o'
    fresh := !((List.range it).any fun prev => sameOrdering o' prev ks)
    pw := rs.map weightedPoint }

/-- `xsum` (R261). -/
def sumVec4 (pw : List Vec4) : Vec4 := pw.foldl Vec4.add zero4

/-- One endpoint of `ClampToGrid` (R274). -/
def clampToGrid (a : Vec4) : Vec4 :=
  (Vec4.multiplyAdd grid4 (one4.min (zero4.max a)) half4).trunc.mul gridRcp4

/-- The least-squares solution of one partition (R264). -/
structure Solution where
  a : Vec4
  b : Vec4
  err : Vec4
deriving DecidableEq, Repr

/-- `Solve(alphax, betax, alphabeta)` (R264). -/
def solve (metric : Vec4) (alphax betax alphabeta : Vec4) : Solution :=
  let alpha2 := alphax.splatW
  let beta2 := betax.splatW
  let factor := (Vec4.negativeMultiplySubtract alphabeta alphabeta (alpha2.mul beta2)).reciprocal
  let a := clampToGrid ((Vec4.negativeMultiplySubtract betax alphabeta (alphax.mul beta2)).mul factor)
  let b := clampToGrid ((Vec4.negativeMultiplySubtract alphax alphabeta (betax.mul alpha2)).mul factor)
  let e1 := Vec4.multiplyAdd (a.mul a) alpha2 ((b.mul b).mul beta2)
  let e2 := Vec4.negativeMultiplySubtract a alphax ((a.mul b).mul alphabeta)
  let e3 := Vec4.negativeMultiplySubtract b betax e2
  let e4 := Vec4.multiplyAdd two4 e3 e1
  let e5 := e4.mul metric
  ⟨a, b, (e5.splatX.add e5.splatY).add e5.splatZ⟩

/-- The running search state of a trial (R265, R266, R270). -/
structure Search where
  error : Vec4
  start : Vec4
  stop : Vec4
  i : Nat
  j : Nat
  k : Nat
  it : Nat
deriving DecidableEq, Repr

/-- The test of R265 and R266: a strictly lower error replaces the best partition. -/
def Search.consider (b : Search) (r : Solution) (i j k it : Nat) : Search :=
  if r.err.compareAnyLessThan b.error then ⟨r.err, r.a, r.b, i, j, k, it⟩ else b

/-- `hh` (R265). -/
def hh : Vec4 := ⟨F32.half, F32.half, F32.half, F32.quarter⟩
/-- `f32(1/9)` (R266). -/
def ninth : F32 := ⟨0x3DE38E39#32⟩
/-- `f32(4/9)` (R266). -/
def fourNinths : F32 := ⟨0x3EE38E39#32⟩
/-- `f32(2/9)` (R266). -/
def twoNinths : F32 := ⟨0x3E638E39#32⟩
/-- `o13` (R266). -/
def o13 : Vec4 := ⟨third, third, third, ninth⟩
/-- `t23` (R266). -/
def t23 : Vec4 := ⟨twoThirds, twoThirds, twoThirds, fourNinths⟩
/-- `t29` (R266). -/
def t29 : Vec4 := Vec4.splat twoNinths

/-- `Solve` for the 3-cluster partition with sums `part0`, `part1` (R265). -/
def solve3 (metric xsum part0 part1 : Vec4) : Solution :=
  let part2 := (xsum.sub part1).sub part0
  solve metric (Vec4.multiplyAdd part1 hh part0) (Vec4.multiplyAdd part1 hh part2) (part1.mul hh).splatW

/-- The loop over `j` of R265; `rest` holds the points `j..n-1`. -/
def enumerate3Inner (metric xsum part0 : Vec4) (it i : Nat) : List Vec4 → Vec4 → Nat → Search → Search
  | [], part1, j, b => b.consider (solve3 metric xsum part0 part1) i j 0 it
  | x :: xs, part1, j, b =>
    enumerate3Inner metric xsum part0 it i xs (part1.add x) (j + 1)
      (b.consider (solve3 metric xsum part0 part1) i j 0 it)

/-- The loop over `i ≥ 1` of R265; `rest` holds the points `i..n-1`. -/
def enumerate3From (metric xsum : Vec4) (it : Nat) : List Vec4 → Vec4 → Nat → Search → Search
  | [], _, _, b => b
  | x :: xs, part0, i, b =>
    enumerate3From metric xsum it xs (part0.add x) (i + 1)
      (enumerate3Inner metric xsum part0 it i (x :: xs) zero4 i b)

/-- `Enumerate3(it)` (R265): with `i = 0` the half-way cluster starts with point 0. -/
def enumerate3 (metric xsum : Vec4) (it : Nat) (pw : List Vec4) (b : Search) : Search :=
  match pw with
  | [] => b
  | x :: xs =>
    enumerate3From metric xsum it xs (zero4.add x) 1 (enumerate3Inner metric xsum zero4 it 0 xs x 1 b)

/-- `Solve` for the 4-cluster partition with sums `part0`, `part1`, `part2` (R266). -/
def solve4 (metric xsum part0 part1 part2 : Vec4) : Solution :=
  let part3 := ((xsum.sub part2).sub part1).sub part0
  solve metric (Vec4.multiplyAdd part2 o13 (Vec4.multiplyAdd part1 t23 part0))
    (Vec4.multiplyAdd part1 o13 (Vec4.multiplyAdd part2 t23 part3)) (t29.mul (part1.add part2).splatW)

/-- The loop over `k` of R266; `rest` holds the points `k..n-1`. -/
def enumerate4Inner (metric xsum part0 part1 : Vec4) (it i j : Nat) : List Vec4 → Vec4 → Nat → Search → Search
  | [], part2, k, b => b.consider (solve4 metric xsum part0 part1 part2) i j k it
  | x :: xs, part2, k, b =>
    enumerate4Inner metric xsum part0 part1 it i j xs (part2.add x) (k + 1)
      (b.consider (solve4 metric xsum part0 part1 part2) i j k it)

/-- The loop over `j ≥ 1` of R266; `rest` holds the points `j..n-1`. -/
def enumerate4Middle (metric xsum part0 : Vec4) (it i : Nat) : List Vec4 → Vec4 → Nat → Search → Search
  | [], part1, j, b => enumerate4Inner metric xsum part0 part1 it i j [] zero4 j b
  | x :: xs, part1, j, b =>
    enumerate4Middle metric xsum part0 it i xs (part1.add x) (j + 1)
      (enumerate4Inner metric xsum part0 part1 it i j (x :: xs) zero4 j b)

/-- The loop over `i ≥ 1` of R266; `rest` holds the points `i..n-1`. -/
def enumerate4From (metric xsum : Vec4) (it : Nat) : List Vec4 → Vec4 → Nat → Search → Search
  | [], _, _, b => b
  | x :: xs, part0, i, b =>
    enumerate4From metric xsum it xs (part0.add x) (i + 1)
      (enumerate4Middle metric xsum part0 it i (x :: xs) zero4 i b)

/-- `Enumerate4(it)` (R266): with `j = 0`, which only `i = 0` reaches, the one-third cluster starts with point 0. -/
def enumerate4 (metric xsum : Vec4) (it : Nat) (pw : List Vec4) (b : Search) : Search :=
  match pw with
  | [] => b
  | x :: xs =>
    enumerate4From metric xsum it xs (zero4.add x) 1
      (enumerate4Middle metric xsum zero4 it 0 xs (zero4.add x) 1
        (enumerate4Inner metric xsum zero4 zero4 it 0 0 xs x 1 b))

/-- The partition search of one ordering (R265, R266). -/
def enumerate (size : CodebookSize) (metric : Vec4) (it : Nat) (pw : List Vec4) (b : Search) : Search :=
  match size with
  | .three => enumerate3 metric (sumVec4 pw) it pw b
  | .four => enumerate4 metric (sumVec4 pw) it pw b

/-- What `ClusterSearch` leaves (R270). -/
structure SearchResult where
  best : Search
  order : Vector Byte 128
  tried : Nat
deriving DecidableEq, Repr

/-- The loop of R270 at iteration `it` over the ordering's weighted points. The fuel is the number of iterations still
allowed, so test (b) ends the loop no later than the fuel does. -/
def searchLoop (size : CodebookSize) (metric : Vec4) (pts : List (Vec3 × F32)) (limit : Nat) :
    Nat → Nat → Nat → List Vec4 → Vector Byte 128 → Search → SearchResult
  | 0, _, tried, _, o, b => ⟨b, o, tried⟩
  | fuel + 1, it, tried, pw, o, b =>
    let b := enumerate size metric it pw b
    if b.it ≠ it then ⟨b, o, tried⟩
    else if it + 1 = limit then ⟨b, o, tried⟩
    else
      let c := constructOrdering pts o (b.stop.sub b.start).getVec3 (it + 1)
      if c.fresh then searchLoop size metric pts limit fuel (it + 1) (tried + 1) c.pw c.order b
      else ⟨b, c.order, tried⟩

/-- `ClusterSearch(K)` (R270) from the incoming running best error. -/
def clusterSearch (size : CodebookSize) (f : BitVec 9) (pts : List (Vec3 × F32)) (axis : Vec3) (o : Vector Byte 128)
    (best : F32) : SearchResult :=
  let c := constructOrdering pts o axis 0
  searchLoop size (metric4 f) pts (iterCount f) (iterCount f) 0 1 c.pw c.order ⟨Vec4.splat best, zero4, zero4, 0, 0, 0, 0⟩

/-- The index of rank `m` in the best partition (R275). -/
def rankIndex (size : CodebookSize) (b : Search) (m : Nat) : BitVec 2 :=
  match size with
  | .three => if m < b.i then 0#2 else if m < b.j then 2#2 else 1#2
  | .four => if m < b.i then 0#2 else if m < b.j then 2#2 else if m < b.k then 3#2 else 1#2

/-- `Unorder(K)` (R275), for `n` points. -/
def unorder (size : CodebookSize) (o : Vector Byte 128) (b : Search) (n : Nat) : Vector (BitVec 2) 16 :=
  (List.range n).foldl (fun u m => u.setIfInBounds (orderByte o (16 * b.it + m)).toNat (rankIndex size b m))
    (Vector.replicate 16 0#2)

/-- Is the candidate of this codebook size written as a 4-colour block? -/
def isFour : CodebookSize → Bool
  | .three => false
  | .four => true

/-- A cluster trial (R276); `S.iters` is written whether or not the candidate is (R270). -/
def clusterTrial (size : CodebookSize) (axis : Vec3) (x : State × F32) : State × F32 :=
  let ps := x.1.ps
  let r := clusterSearch size ps.cfg ps.used axis x.1.order x.2
  let s := { x.1 with order := r.order, iters := r.tried }
  if r.best.error.compareAnyLessThan (Vec4.splat x.2) then
    ({ s.writeCandidate (isFour size) r.best.start.getVec3 r.best.stop.getVec3
        (remapIndices ps.remap (unorder size r.order r.best ps.used.length)) with bestIter := r.best.it },
      r.best.error.x)
  else (s, x.2)

/-- FIT_CLUSTER after its check (R280). -/
def fitClusterRun (p : Params) (s : State) : State :=
  let axis := principalAxis p.libm s.ps
  let r := fitTrial s.ps.cfg s.ps.transparent (clusterTrial .three axis) (clusterTrial .four axis)
    (s.beginFit .cluster, F32.fltMax)
  { r.1 with besterr := r.2 }

/-- FIT_CLUSTER (R280). -/
def fitClusterBody (p : Params) (s : State) : Except ErrorCode State :=
  if s.ps.valid then .ok (fitClusterRun p s) else .error .noPs

/-- FIT_CLUSTER, `OP = 0x23` (R280). -/
def execFitCluster (s : State) : Host.Outcome State Fault Refusal := runCommand (fitClusterBody Config.params) s

end Sys2Proof.Machine
end

