-- ==== Sys2Proof/Machine/FitRange.lean ====
section
/-! DEFINITION. The range fit engine (`42_fit_range.md` R228 to R232) and the command FIT_RANGE (R235). -/

namespace Sys2Proof.Machine

/-- The running extremes of R228. -/
structure Extremes where
  start : Vec3
  stop : Vec3
  lo : F32
  hi : F32
deriving DecidableEq, Repr

/-- One point of the loop of R228: ties keep the earlier point. -/
def Extremes.consider (axis : Vec3) (e : Extremes) (p : Vec3) : Extremes :=
  let val := p.dot axis
  if val.lt e.lo then { e with start := p, lo := val }
  else if e.hi.lt val then { e with stop := p, hi := val }
  else e

/-- The two extreme points along the axis, both zero for an empty set (R228). -/
def extremePoints (axis : Vec3) (pts : List Vec3) : Vec3 × Vec3 :=
  match pts with
  | [] => (Vec3.splat F32.zero, Vec3.splat F32.zero)
  | p :: rest =>
    let v := p.dot axis
    let e := rest.foldl (Extremes.consider axis) ⟨p, p, v, v⟩
    (e.start, e.stop)

/-- `RangeEndpoints()` (R228). -/
def rangeEndpoints (lib : Libm) (ps : PointSet) : Vec3 × Vec3 :=
  let e := extremePoints (principalAxis lib ps) (ps.used.map Prod.fst)
  (quantiseGrid e.1.clamp01, quantiseGrid e.2.clamp01)

/-- `codes3` of R229. -/
def rangeCodes3 (start stop : Vec3) : List Vec3 :=
  [start, stop, (start.scale F32.half).add (stop.scale F32.half)]

/-- `codes4` of R229. -/
def rangeCodes4 (start stop : Vec3) : List Vec3 :=
  [start, stop, (start.scale twoThirds).add (stop.scale third), (start.scale third).add (stop.scale twoThirds)]

/-- The inner loop of R230: the least distance and its code, ties to the lower index. -/
def nearestColour (metric : Vec3) (codes : List Vec3) (p : Vec3) : F32 × Nat :=
  codes.zipIdx.foldl
    (fun best cj =>
      let d := (metric.mul (p.sub cj.1)).lengthSquared
      if d.lt best.1 then (d, cj.2) else best)
    (F32.fltMax, 0)

/-- `Assign(codes, K)` (R230), `K` the number of codes: the per-point indices and the total error. -/
def assign (metric : Vec3) (codes : List Vec3) (pts : List Vec3) : List (BitVec 2) × F32 :=
  (pts.map fun p => BitVec.ofNat 2 (nearestColour metric codes p).2,
   pts.foldl (fun err p => err.add (nearestColour metric codes p).1) F32.zero)

/-- A range trial (R232): the candidate is written only if its error is strictly below the running best. -/
def rangeTrial (mode4 : Bool) (start stop : Vec3) (codes : List Vec3) (x : State × F32) : State × F32 :=
  let r := assign (metric3 x.1.ps.cfg) codes (x.1.ps.used.map Prod.fst)
  if r.2.lt x.2 then
    (x.1.writeCandidate mode4 start stop (remapIndices x.1.ps.remap (indexVector r.1)), r.2)
  else x

/-- FIT_RANGE after its check (R235). -/
def fitRangeRun (p : Params) (s : State) : State :=
  let e := rangeEndpoints p.libm s.ps
  let r := fitTrial s.ps.cfg s.ps.transparent (rangeTrial false e.1 e.2 (rangeCodes3 e.1 e.2))
    (rangeTrial true e.1 e.2 (rangeCodes4 e.1 e.2)) (s.beginFit .range, F32.fltMax)
  { r.1 with besterr := r.2 }

/-- FIT_RANGE (R235). -/
def fitRangeBody (p : Params) (s : State) : Except ErrorCode State :=
  if s.ps.valid then .ok (fitRangeRun p s) else .error .noPs

/-- FIT_RANGE, `OP = 0x22` (R235). -/
def execFitRange (s : State) : Host.Outcome State Fault Refusal := runCommand (fitRangeBody Config.params) s

end Sys2Proof.Machine
end

