-- ==== Sys2Proof/Machine/FitSingle.lean ====
section
/-! DEFINITION. The single-colour fit engine (`44_fit_single.md` R303 to R305) and the command FIT_SINGLE (R310). The tables
are read only through `Params.lut` (R302). -/

namespace Sys2Proof.Machine

/-- One channel of `SingleColour()` (R303). -/
def singleChannel (l : F32) : Byte := BitVec.ofNat 8 (floatToInt (f255.mul l) 255)

/-- The three channels of a point, as 8-bit values (R303). -/
structure SingleColour where
  r : Byte
  g : Byte
  b : Byte
deriving DecidableEq, Repr

/-- `SingleColour()` (R303), of the point `p`. -/
def singleColour (p : Vec3) : SingleColour := ⟨singleChannel p.x, singleChannel p.y, singleChannel p.z⟩

/-- What `ComputeEndPoints` returns (R304). -/
structure SingleResult where
  start : Vec3
  stop : Vec3
  index : BitVec 2
  err : Nat
deriving DecidableEq, Repr

/-- `k / 31.0` or `k / 63.0` for a table field `k` (R304). -/
def gridLane (k : BitVec 6) (grid : F32) : F32 := (F32.ofNat k.toNat).div grid

/-- The candidate of one selector (R304). -/
def singleCandidate (r g b : ScfSource) (index : BitVec 2) : SingleResult where
  start := ⟨gridLane r.start f31, gridLane g.start f63, gridLane b.start f31⟩
  stop := ⟨gridLane r.stop f31, gridLane g.stop f63, gridLane b.stop f31⟩
  index := index
  err := r.error.toNat ^ 2 + g.error.toNat ^ 2 + b.error.toNat ^ 2

/-- `ComputeEndPoints(s)` (R304). Selector 0 always beats the starting `2^31 - 1`, because an error field is a `u8` (R300), so
the loop keeps selector 0 unless selector 1 is strictly lower. -/
def computeEndPoints (p : Params) (size : CodebookSize) (col : SingleColour) : SingleResult :=
  let er := p.lut .five size col.r
  let eg := p.lut .six size col.g
  let eb := p.lut .five size col.b
  let c0 := singleCandidate er.src0 eg.src0 eb.src0 0#2
  let c1 := singleCandidate er.src1 eg.src1 eb.src1 2#2
  if c1.err < c0.err then c1 else c0

/-- A single-colour trial (R305). -/
def singleTrial (p : Params) (mode4 : Bool) (col : SingleColour) (x : State × Nat) : State × Nat :=
  let r := computeEndPoints p (if mode4 then .four else .three) col
  if r.err < x.2 then
    (x.1.writeCandidate mode4 r.start r.stop (remapIndices x.1.ps.remap (indexVector [r.index])), r.err)
  else x

/-- FIT_SINGLE after its checks (R310). -/
def fitSingleRun (p : Params) (s : State) : State :=
  let col := singleColour s.ps.point[0]
  let r := fitTrial s.ps.cfg s.ps.transparent (singleTrial p false col) (singleTrial p true col)
    (s.beginFit .single, 2 ^ 31 - 1)
  { r.1 with besterrI := BitVec.ofNat 32 r.2 }

/-- FIT_SINGLE (R310): E_NO_PS is checked before E_COUNT (R453). -/
def fitSingleBody (p : Params) (s : State) : Except ErrorCode State :=
  if s.ps.valid then
    (if s.ps.count = 1 then .ok (fitSingleRun p s) else .error .count)
  else .error .noPs

/-- FIT_SINGLE, `OP = 0x21` (R310). -/
def execFitSingle (s : State) : Host.Outcome State Fault Refusal := runCommand (fitSingleBody Config.params) s

end Sys2Proof.Machine
end

