-- ==== Sys2Proof/Machine/Commands.lean ====
section
/-! DEFINITION. The control commands, the fit dispatcher and the whole-block commands (`47_commands.md` R410 to R415). -/

namespace Sys2Proof.Machine

/-- NOP (R410). -/
def nopBody (s : State) : Except ErrorCode State := .ok s

/-- CLEAR (R414): the derived state back to its reset values of R60. -/
def State.cleared (s : State) : State :=
  { s with
    ps := State.reset.ps
    fit := State.reset.fit
    besterr := State.reset.besterr
    besterrI := State.reset.besterrI
    aerr5 := State.reset.aerr5
    aerr7 := State.reset.aerr7
    iters := State.reset.iters
    bestIter := State.reset.bestIter
    order := State.reset.order }

/-- CLEAR (R414). -/
def clearBody (s : State) : Except ErrorCode State := .ok s.cleared

/-- `FitAutoBody()` (R415): single before range before cluster, an empty set to the range fit. -/
def fitAutoRun (p : Params) (s : State) : State :=
  if s.ps.count = 1 then fitSingleRun p s
  else if isRange s.ps.cfg || s.ps.count == 0 then fitRangeRun p s
  else fitClusterRun p s

/-- FIT_AUTO (R415). -/
def fitAutoBody (p : Params) (s : State) : Except ErrorCode State :=
  if s.ps.valid then .ok (fitAutoRun p s) else .error .noPs

/-- The alpha part of `CompressBody` (R411), for the normalised flags `f` and mask `m`. -/
def State.putAlpha (p : Params) (s : State) (f : BitVec 9) (m : BitVec 16) : State :=
  let s := if isBC2 f then s.putAlpha3 m else s
  if isBC3 f then s.putAlpha5 p m else s

/-- `CompressBody(m)` (R411). -/
def compressRun (p : Params) (m : BitVec 16) (s : State) : State :=
  (fitAutoRun p (s.withPointSet m)).putAlpha p (normalise s.cfg) m

/-- COMPRESS (R411). -/
def compressBody (p : Params) (s : State) : Except ErrorCode State := .ok (compressRun p 0xFFFF#16 s)

/-- COMPRESS_MASKED (R412). -/
def compressMaskedBody (p : Params) (s : State) : Except ErrorCode State := .ok (compressRun p s.mask s)

/-- The texels DECOMPRESS writes (R413): the colour decoder's, with the alpha decoder's A lanes in BC2 and BC3. -/
def decompressTexels (p : Params) (s : State) : Vector Rgba 16 :=
  let f := normalise s.cfg
  let out := decodeColour p.bc23ColourMode (s.blockHalf (colourHigh f)) (isBC1 f)
  let al := if isBC2 f then decodeAlpha3 (s.blockHalf false) else decodeAlpha5 (s.blockHalf false)
  Vector.ofFn fun i => if isBC1 f then out[i] else { out[i] with a := al[i] }

/-- DECOMPRESS (R413). -/
def decompressBody (p : Params) (s : State) : Except ErrorCode State := .ok (s.writeTexels (decompressTexels p s))

/-- NOP, `OP = 0x00` (R410). -/
def execNop (s : State) : Host.Outcome State Fault Refusal := runCommand nopBody s

/-- COMPRESS, `OP = 0x01` (R411). -/
def execCompress (s : State) : Host.Outcome State Fault Refusal := runCommand (compressBody Config.params) s

/-- COMPRESS_MASKED, `OP = 0x02` (R412). -/
def execCompressMasked (s : State) : Host.Outcome State Fault Refusal := runCommand (compressMaskedBody Config.params) s

/-- DECOMPRESS, `OP = 0x03` (R413). -/
def execDecompress (s : State) : Host.Outcome State Fault Refusal := runCommand (decompressBody Config.params) s

/-- CLEAR, `OP = 0x04` (R414). -/
def execClear (s : State) : Host.Outcome State Fault Refusal := runCommand clearBody s

/-- FIT_AUTO, `OP = 0x20` (R415). -/
def execFitAuto (s : State) : Host.Outcome State Fault Refusal := runCommand (fitAutoBody Config.params) s

end Sys2Proof.Machine
end

