-- ==== Sys2Proof/Machine/Dispatch.lean ====
section
/-! DEFINITION. One arm per command of R101: each calls the meaning its rule gives it. -/

namespace Sys2Proof.Machine

def exec (i : Instr) (s : State) : Host.Outcome State Fault Refusal :=
  match i with
  -- control and whole-block commands (47_commands.md)
  | .nop => Sys2Proof.Machine.execNop s
  | .compress => Sys2Proof.Machine.execCompress s
  | .compressMasked => Sys2Proof.Machine.execCompressMasked s
  | .decompress => Sys2Proof.Machine.execDecompress s
  | .clear => Sys2Proof.Machine.execClear s
  -- point-set builder (41_pointset.md)
  | .psBuild => Sys2Proof.Machine.execPsBuild s
  -- fits (47_commands.md, 44_fit_single.md, 42_fit_range.md, 43_fit_cluster.md)
  | .fitAuto => Sys2Proof.Machine.execFitAuto s
  | .fitSingle => Sys2Proof.Machine.execFitSingle s
  | .fitRange => Sys2Proof.Machine.execFitRange s
  | .fitCluster => Sys2Proof.Machine.execFitCluster s
  -- colour codec (45_colour_codec.md)
  | .pack3 => Sys2Proof.Machine.execPack3 s
  | .pack4 => Sys2Proof.Machine.execPack4 s
  | .colourDec => Sys2Proof.Machine.execColourDec s
  -- alpha codecs (46_alpha_codec.md)
  | .alpha3Enc => Sys2Proof.Machine.execAlpha3Enc s
  | .alpha3Dec => Sys2Proof.Machine.execAlpha3Dec s
  | .alpha5Enc => Sys2Proof.Machine.execAlpha5Enc s
  | .alpha5Dec => Sys2Proof.Machine.execAlpha5Dec s

end Sys2Proof.Machine
end

