-- ==== Sys2Proof/Machine/Step.lean ====
section
/-! DEFINITION. One event of the total order of host accesses and core steps (`20_memory.md` R80, R81; `60_exceptions.md`
R454; `70_reset_and_hazards.md` R480). -/

namespace Sys2Proof.Machine

/-- `CoreStep()` (R454), enabled while a command is pending: the command of `S.pending` runs as one atomic step. -/
def coreStep (s : State) : Host.Outcome State Fault Refusal :=
  match decodeOp s.pending with
  | some i => exec i s
  | none => .fault .pendingIllegal

/-- The core's turn: its step if a command is pending, else nothing (R454: enabled iff `S.busy`; R480: an idle core waits for
a host access). -/
def coreTurn (s : State) : Host.Outcome State Fault Refusal :=
  if s.busy then coreStep s else .next s

/-- One event. The next event of `events` happens; when the host has none left, it is the core's turn (log entries 1, 2). -/
def step (s : State) : Host.Outcome State Fault Refusal :=
  match s.events with
  | [] => coreTurn s
  | .write off v :: rest => .next (State.hostWrite { s with events := rest } off v)
  | .read off :: rest => .next (State.hostRead { s with events := rest } off)
  | .coreStep :: rest => coreTurn { s with events := rest }
  | .reset :: rest => .next (State.resetEvent { s with events := rest })

/-- `s` with the command word `w` as the accepted command and no host event before the core's step, so that the very next
step runs it: what an accepted write of `w` to CMD leaves (R450). A word the acceptance checks refuse is never pending; it
is presented as the next CMD write instead, which records its error. Log entry 1. -/
def State.withFetchWord (s : State) (nbits w : Nat) : State :=
  match decodeTableWord nbits w with
  | some i => { s.accept i.opcode with events := [] }
  | none => { s with busy := false, events := [.write 0x008#12 (BitVec.ofNat 32 w)] }

end Sys2Proof.Machine
end

