-- ==== Sys2Proof/Machine/HostDuties.lean ====
section
/-! DEFINITION. The host's side of the port: the script syntax of `30_encoding.md` R130 and R131 as lists of events, and the
host duties of `47_commands.md` R430 to R434. Host software, no part of the core (`00_scope.md` R8): no state of the core and
no meaning of a command uses this file. Log entry 17. -/

namespace Sys2Proof.Machine

/-- `WR <reg>, <value>` (R130). -/
def wr (r : Reg) (v : Word) : Event := .write (BitVec.ofNat 12 (regOffset r)) v

/-- `RD <reg>` (R130). -/
def rd (r : Reg) : Event := .read (BitVec.ofNat 12 (regOffset r))

/-- `CMD <MNEMONIC>` (R131). -/
def cmdScript (i : Instr) : List Event := [wr .cmd (encode i)]

/-- `WAIT` (R131) in a total order where the core's step falls after `polls` reads of STATUS that find BUSY = 1: those reads,
the step, and the read that finds BUSY = 0. -/
def waitScript (polls : Nat) : List Event := List.replicate polls (rd .status) ++ [.coreStep, rd .status]

/-- `RUN <MNEMONIC>` (R131). -/
def runScript (i : Instr) (polls : Nat) : List Event := cmdScript i ++ waitScript polls

/-- `CLRST` (R131). -/
def clrstScript : List Event := [wr .status 0x00000006#32]

/-- `LDTILE v0, ..., v15` (R131). -/
def ldTileScript (v : Vector Word 16) : List Event := slots.map fun i => wr (.texel i) v[i]

/-- `FILL v` (R131). -/
def fillScript (v : Word) : List Event := ldTileScript (Vector.replicate 16 v)

/-- `LDBLK w0, w1, w2, w3` (R131). -/
def ldBlkScript (w : Vector Word 4) : List Event := (List.finRange 4).map fun i => wr (.block i) w[i]

/-- `STBLK` (R131). -/
def stBlkScript : List Event := (List.finRange 4).map fun i => rd (.block i)

/-- `ceil(n/4)`: the tiles that cover `n` pixels of one axis (R430). -/
def tilesAcross (n : Nat) : Nat := (n + 3) / 4

/-- Does slot `i` of tile `(bx, by)` hold a pixel of the image (R430)? -/
def inBounds (width height bx byRow : Nat) (i : Fin 16) : Bool :=
  decide (4 * bx + i.val % 4 < width) && decide (4 * byRow + i.val / 4 < height)

/-- The MASK of tile `(bx, by)` (R430, R434). -/
def tileMask (width height bx byRow : Nat) : BitVec 16 :=
  slots.foldl (fun m i => if inBounds width height bx byRow i then m ||| (1#16 <<< i.val) else m) 0#16

/-- The block number of tile `(bx, by)`: raster order of tiles (R431). -/
def blockNumber (width bx byRow : Nat) : Nat := byRow * tilesAcross width + bx

/-- The byte offset of a tile's block in the block array (R431). -/
def blockOffset (width bx byRow : Nat) (flags : BitVec 9) : Nat :=
  blockNumber width bx byRow * bytesPerBlock (normalise flags)

/-- `GetStorageRequirements(width, height, flags)` (R432). -/
def storageRequirements (width height : Nat) (flags : BitVec 9) : Nat :=
  tilesAcross width * tilesAcross height * bytesPerBlock (normalise flags)

/-- The host's precondition failure `SizeMismatch` (R432): the buffer is too small, and no command is issued. -/
def sizeMismatch (width height : Nat) (flags : BitVec 9) (bufferSize : Nat) : Bool :=
  decide (bufferSize < storageRequirements width height flags)

/-- The bytes the host copies from BLOCK to the block array (R431): BLOCK0..1 in BC1, BLOCK0..3 in BC2 and BC3. -/
def State.blockBytes (s : State) : List Byte :=
  ((List.finRange 16).take (bytesPerBlock (normalise s.cfg))).map s.blockByte

/-- The host's script for compressing one tile (R430): MASK and TEXEL, then COMPRESS_MASKED, then the block. -/
def compressTileScript (mask : BitVec 16) (tile : Vector Word 16) (polls : Nat) : List Event :=
  [wr .mask (mask.zeroExtend 32)] ++ ldTileScript tile ++ runScript .compressMasked polls ++ stBlkScript

/-- The host's script for decompressing one tile (R434); it then reads the in-bounds slots. -/
def decompressTileScript (mask : BitVec 16) (block : Vector Word 4) (polls : Nat) : List Event :=
  ldBlkScript block ++ runScript .decompress polls ++ (slots.filter (slotValid mask)).map fun i => rd (.texel i)

end Sys2Proof.Machine
end

