-- ==== Sys2Proof/Safety.lean ====
section
/-! DEFINITION. What counts as a safe run, and the invariant of the core's state, in the terms the statements use. -/

namespace Sys2Proof.Machine

/-- The values every state of a core has that was reset once (`10_state.md` R40 to R48, R60; `41_pointset.md` R190, R191,
R197). -/
structure State.Inv (s : State) : Prop where
  /-- ECODE is 0 while ERR is 0 (R40, R451) -/
  ecodeClear : s.err = false → s.ecode = 0#4
  /-- ECODE is one of the codes 1 to 8 while ERR is 1; 9 to 15 are never reported (R451) -/
  ecodeLegal : s.err = true → 1 ≤ s.ecode.toNat ∧ s.ecode.toNat ≤ 8
  /-- LASTOP is the OP of the last accepted command, which is the pending one while it is pending (R40, R450) -/
  lastopPending : s.lastop = s.pending
  /-- only an OP of the opcode map is ever accepted (R102, R450) -/
  pendingListed : (decodeOp s.pending).isSome = true
  /-- DONE is cleared when a command is accepted and set when its step completes (R40) -/
  busyNotDone : s.busy = true → s.done = false
  /-- at most 16 points (R11, R197) -/
  psCount : s.ps.count ≤ 16
  /-- a remap entry is INVALID or the index of a point (R43, R190) -/
  psRemap : ∀ i k : Fin 16, s.ps.remap[i] = some k → k.val < s.ps.count
  /-- every point is a normalised RGB colour (R43, R191) -/
  psPoint : ∀ k : Fin 16, k.val < s.ps.count → ∃ t : Word,
    s.ps.point[k] = ⟨(F32.ofNat (t.toNat % 256)).div f255, (F32.ofNat (t.toNat / 256 % 256)).div f255,
      (F32.ofNat (t.toNat / 65536 % 256)).div f255⟩
  /-- unused entries hold +0.0 (R190) -/
  psUnused : ∀ k : Fin 16, s.ps.count ≤ k.val → s.ps.point[k] = zeroVec3 ∧ s.ps.weight[k] = ⟨0#32⟩
  /-- a point set is built under normalised flags (R43, R195) -/
  psCfg : s.ps.valid = true → normalise s.ps.cfg = s.ps.cfg
  /-- no point set: the file holds its reset values (R60, R414) -/
  psInvalid : s.ps.valid = false → s.ps = PointSet.reset
  /-- at most 8 orderings are tried (R12, R42) -/
  iters : s.iters ≤ 8
  /-- the best ordering is number 0 to 7 (R42) -/
  bestIter : s.bestIter ≤ 7
  /-- the ordering history holds point indices (R48) -/
  order : ∀ n : Fin 128, (s.order[n]).toNat < 16

/-- A run that never stops: `k` steps answer a next state for every `k`. -/
def SafeRun (s : State) : Prop := ∀ k : Nat, ∃ t : State, Host.Core.run Sys2Proof.core k s = .next t

/-- Is the exponent field of a binary32 pattern below all ones: no NaN and no infinity (R331)? -/
def finiteBits (x : F32) : Bool := x.bits.extractLsb' 23 8 != 0xFF#8

/-- Are the six endpoint lanes of the fit-result file finite (R331)? -/
def FitResult.lanesFinite (r : FitResult) : Bool :=
  finiteBits r.start.x && finiteBits r.start.y && finiteBits r.start.z &&
    finiteBits r.stop.x && finiteBits r.stop.y && finiteBits r.stop.z

/-- The error the step of a command raises (R451 to R453), if any. -/
def stepError (i : Instr) (s : State) : Option ErrorCode :=
  match i with
  | .fitAuto | .fitRange | .fitCluster => if s.ps.valid then none else some .noPs
  | .fitSingle => if s.ps.valid then (if s.ps.count = 1 then none else some .count) else some .noPs
  | .pack3 | .pack4 => if s.fit.lanesFinite then none else some .operand
  | .nop | .compress | .compressMasked | .decompress | .clear | .psBuild | .colourDec | .alpha3Enc | .alpha3Dec
  | .alpha5Enc | .alpha5Dec => none

/-- Does slot `i` of the tile enter the point set: valid and, in BC1, opaque (R190)? -/
def inPointSet (T : Vector Word 16) (m : BitVec 16) (f : BitVec 9) (i : Fin 16) : Bool :=
  slotValid m i && !(isBC1 f && decide ((texelA T[i]).toNat < 128))

/-- The squared difference of the R, G and B lanes of two texels. -/
def rgbError (t u : Word) : Nat :=
  sqDiff (texelR t).toNat (texelR u).toNat + sqDiff (texelG t).toNat (texelG u).toNat +
    sqDiff (texelB t).toNat (texelB u).toNat

/-- The squared difference of the A lanes of two tiles, summed over the valid slots. -/
def alphaTileError (m : BitVec 16) (T U : Vector Word 16) : Nat :=
  (slots.map fun i => if slotValid m i then sqDiff (texelA T[i]).toNat (texelA U[i]).toNat else 0).sum

/-- The alphas of the valid slots, in slot order. -/
def validAlphas (m : BitVec 16) (T : Vector Word 16) : List Nat :=
  (slots.filter (slotValid m)).map fun i => (texelA T[i]).toNat

/-- Is `x` the least element of the list? -/
def LeastIn (x : Nat) (l : List Nat) : Prop := x ∈ l ∧ ∀ y ∈ l, x ≤ y

/-- Is `x` the greatest element of the list? -/
def GreatestIn (x : Nat) (l : List Nat) : Prop := x ∈ l ∧ ∀ y ∈ l, y ≤ x

/-- May the command change byte `n` of the block buffer (R32, R233, R375, R411)? The fits write the colour half of the
latched flags, the pack commands that of CFG, the alpha encoders bytes 0..7, the whole-block commands every byte of the
format. -/
def writesBlockByte (i : Instr) (s : State) (n : Fin 16) : Bool :=
  match i with
  | .fitAuto | .fitSingle | .fitRange | .fitCluster => decide (8 ≤ n.val) == !isBC1 s.ps.cfg
  | .pack3 | .pack4 => decide (8 ≤ n.val) == !isBC1 (normalise s.cfg)
  | .alpha3Enc | .alpha5Enc => decide (n.val < 8)
  | .compress | .compressMasked => decide (n.val < bytesPerBlock (normalise s.cfg))
  | .nop | .decompress | .clear | .psBuild | .colourDec | .alpha3Dec | .alpha5Dec => false

end Sys2Proof.Machine

namespace Sys2Proof

/-- The rational a finite binary32 pattern stands for (a NaN or an infinity gives 0). -/
def F32.value (x : F32) : ℚ :=
  match x.unpack with
  | .fin neg m e => (if neg then -1 else 1) * (m : ℚ) * (2 : ℚ) ^ e
  | _ => 0

/-- Is `r` the binary32 value nearest to the rational `q` (R15, R150): no finite value is nearer, and of two nearest ones
`r` has the even fraction; from the midpoint of FLT_MAX and `2^128` on, `r` is the infinity of the sign of `q`? -/
def NearestEven (q : ℚ) (r : F32) : Prop :=
  (|q| < (2 : ℚ) ^ 128 - (2 : ℚ) ^ 103 →
    r.isFinite = true ∧ ∀ z : F32, z.isFinite = true →
      |q - r.value| ≤ |q - z.value| ∧
      (|q - r.value| = |q - z.value| → z.value = r.value ∨ r.bits.getLsbD 0 = false)) ∧
  ((2 : ℚ) ^ 128 - (2 : ℚ) ^ 103 ≤ |q| → r = F32.inf (decide (q < 0)))

/-- Is `r` the binary32 value nearest to the square root of `q ≥ 0` (R21): the root lies on `r`'s side of the midpoint of `r` and
any other non-negative value? -/
def NearestRoot (q : ℚ) (r : F32) : Prop :=
  r.isFinite = true ∧ 0 ≤ r.value ∧ ∀ z : F32, z.isFinite = true → 0 ≤ z.value →
    (r.value < z.value → q < ((r.value + z.value) / 2) ^ 2) ∧
    (z.value < r.value → ((r.value + z.value) / 2) ^ 2 < q)

end Sys2Proof
end

