-- ==== Sys2Proof/Certificates/Slice0/Obligations.lean ====
section
/-! DEFINITION. The statements for the provers. Each docstring names the rules of the specification it formalises. -/

open Sys2Proof Sys2Proof.Machine

/-! ### Encodings -/

/-- R101 to R103: the decoder reads exactly the seventeen command words of the map, refuses a word with RSV ≠ 0 as reserved
whatever its OP, and refuses every other OP as illegal, in the ranges R102 lists. -/
def Obligations.DecodeExact : Prop :=
  (∀ (w : Word) (i : Instr), decode w = .ok i ↔ w = encode i) ∧
  (∀ w : Word, decode w = .error .reserved ↔ 256 ≤ w.toNat) ∧
  (∀ w : Word, decode w = .error .illegalOp ↔
    (0x05 ≤ w.toNat ∧ w.toNat ≤ 0x0F) ∨ (0x11 ≤ w.toNat ∧ w.toNat ≤ 0x1F) ∨ (0x24 ≤ w.toNat ∧ w.toNat ≤ 0x2F) ∨
      (0x33 ≤ w.toNat ∧ w.toNat ≤ 0x3F) ∨ (0x44 ≤ w.toNat ∧ w.toNat ≤ 0xFF)) ∧
  (∀ w : Word, (CommandWord.ofWord w).wellFormed = true ↔ ∃ i, decode w = .ok i)

/-- R101: the seventeen rows of the opcode map, each word written out. -/
def Obligations.CommandWords : Prop :=
  decode 0x00000000#32 = .ok .nop ∧ decode 0x00000001#32 = .ok .compress ∧
  decode 0x00000002#32 = .ok .compressMasked ∧ decode 0x00000003#32 = .ok .decompress ∧
  decode 0x00000004#32 = .ok .clear ∧ decode 0x00000010#32 = .ok .psBuild ∧
  decode 0x00000020#32 = .ok .fitAuto ∧ decode 0x00000021#32 = .ok .fitSingle ∧
  decode 0x00000022#32 = .ok .fitRange ∧ decode 0x00000023#32 = .ok .fitCluster ∧
  decode 0x00000030#32 = .ok .pack3 ∧ decode 0x00000031#32 = .ok .pack4 ∧
  decode 0x00000032#32 = .ok .colourDec ∧ decode 0x00000040#32 = .ok .alpha3Enc ∧
  decode 0x00000041#32 = .ok .alpha3Dec ∧ decode 0x00000042#32 = .ok .alpha5Enc ∧
  decode 0x00000043#32 = .ok .alpha5Dec

/-- R105: `Normalise` keeps a legal choice, replaces a contradictory or missing one by the default, keeps WBA, and leaves
exactly one format, one fit and one metric bit. -/
def Obligations.NormaliseFlags : Prop :=
  ∀ raw : BitVec 9,
    (normalise raw &&& 0x007#9) =
      (if raw &&& 0x007#9 = 0x002#9 then 0x002#9 else if raw &&& 0x007#9 = 0x004#9 then 0x004#9 else 0x001#9) ∧
    (normalise raw &&& 0x118#9) =
      (if raw &&& 0x118#9 = 0x010#9 then 0x010#9 else if raw &&& 0x118#9 = 0x100#9 then 0x100#9 else 0x008#9) ∧
    (normalise raw &&& 0x060#9) = (if raw &&& 0x060#9 = 0x040#9 then 0x040#9 else 0x020#9) ∧
    (normalise raw &&& 0x080#9) = (raw &&& 0x080#9) ∧
    normalise (normalise raw) = normalise raw

/-- R121, R332: every 8-byte colour sub-block is the packing of its own endpoints and indices, and packing loses nothing. -/
def Obligations.ColourBlockRoundTrip : Prop :=
  (∀ (a b : BitVec 16) (idx : Vector (BitVec 2) 16),
    endpointA (writeColourBlock a b idx) = a ∧ endpointB (writeColourBlock a b idx) = b ∧
    ∀ i : Fin 16, colourIndex (writeColourBlock a b idx) i = (idx[i]).toFin) ∧
  (∀ bytes : Vector Byte 8,
    writeColourBlock (endpointA bytes) (endpointB bytes) (Vector.ofFn fun i => BitVec.ofFin (colourIndex bytes i)) = bytes)

/-- R124, R385, R392: every 8-byte BC3 alpha sub-block is the packing of its own endpoints and indices, and packing loses
nothing. -/
def Obligations.AlphaBlockRoundTrip : Prop :=
  (∀ (a0 a1 : Byte) (idx : Vector (Fin 8) 16),
    (writeAlphaBlock a0.toNat a1.toNat idx)[0] = a0 ∧ (writeAlphaBlock a0.toNat a1.toNat idx)[1] = a1 ∧
    ∀ i : Fin 16, unpackAlphaIndex (writeAlphaBlock a0.toNat a1.toNat idx) i = idx[i]) ∧
  (∀ bytes : Vector Byte 8,
    writeAlphaBlock (bytes[0]).toNat (bytes[1]).toNat (Vector.ofFn fun i => unpackAlphaIndex bytes i) = bytes)

/-! ### The register port -/

/-- R33, R75, R76: the register map. Every register is found at its own offset and nowhere else. -/
def Obligations.RegisterMap : Prop :=
  (∀ r : Reg, regAt (BitVec.ofNat 12 (regOffset r)) = some r ∧ regOffset r < 4096 ∧ regOffset r % 4 = 0) ∧
  (∀ (off : BitVec 12) (r : Reg), regAt off = some r → off.toNat = regOffset r)

/-- R35, R36, R39, R77, R107: a write to an idle core's operand register stores the bits the register has, and changes the
value of no other register (but ECFG, the view of CFG). -/
def Obligations.WrittenRegisterReadsBack : Prop :=
  ∀ (s : State) (r : Reg) (v : Word), s.busy = false → readOnly r = false → r ≠ .cmd → r ≠ .status →
    ∀ t : State, t = s.hostWrite (BitVec.ofNat 12 (regOffset r)) v →
      (t.hostRead (BitVec.ofNat 12 (regOffset r))).rdata =
        (match r with | .cfg => v &&& 0x000001FF#32 | .mask => v &&& 0x0000FFFF#32 | _ => v) ∧
      (∀ q : Reg, q ≠ r → (r = .cfg → q ≠ .ecfg) → t.regValue q = s.regValue q) ∧
      t.ps = s.ps ∧ t.busy = false ∧ t.pending = s.pending ∧ t.events = s.events ∧ t.oracle = s.oracle ∧
      t.rdata = s.rdata

/-- R102, R103: a CMD write that is not a command word is not accepted; it raises E_RESERVED for RSV ≠ 0, whatever its OP,
and E_ILLEGAL_OP for an OP outside the map. A command word is accepted (R450). -/
def Obligations.CommandAcceptance : Prop :=
  ∀ (s : State) (v : Word), s.busy = false →
    (v.extractLsb' 8 24 ≠ 0#24 →
      s.hostWrite 0x008#12 v = { s with err := true, ecode := if s.err then s.ecode else 2#4 }) ∧
    (v.extractLsb' 8 24 = 0#24 → (∀ i : Instr, v ≠ encode i) →
      s.hostWrite 0x008#12 v = { s with err := true, ecode := if s.err then s.ecode else 1#4 }) ∧
    (∀ i : Instr, v = encode i →
      s.hostWrite 0x008#12 v =
        { s with done := false, lastop := v.extractLsb' 0 8, pending := v.extractLsb' 0 8, busy := true })

/-- R75, R76: a misaligned or unmapped access returns 0 or changes nothing, and sets E_BAD_ADDR; an aligned write to a
read-only register changes nothing and sets E_RO_WRITE; a read of CMD returns 0 without error. -/
def Obligations.BadAccessesOnlyRaiseErrors : Prop :=
  ∀ (s : State) (off : BitVec 12) (v : Word),
    (off.toNat % 4 ≠ 0 ∨ (∀ r : Reg, regOffset r ≠ off.toNat) →
      s.hostWrite off v = { s with err := true, ecode := if s.err then s.ecode else 6#4 } ∧
      s.hostRead off = { s with err := true, ecode := if s.err then s.ecode else 6#4, rdata := 0#32 }) ∧
    (∀ r : Reg, regOffset r = off.toNat → readOnly r = true →
      s.hostWrite off v = { s with err := true, ecode := if s.err then s.ecode else 7#4 }) ∧
    s.hostRead 0x008#12 = { s with rdata := 0#32 }

/-- R453, R490: while a command is pending, a write to any writable register but STATUS (CMD included) raises E_BUSY and
changes nothing else; a bad offset and a read-only register are found first. -/
def Obligations.BusyWritesRefused : Prop :=
  ∀ (s : State) (off : BitVec 12) (v : Word), s.busy = true → off ≠ 0x00C#12 →
    s.hostWrite off v =
      { s with
        err := true
        ecode :=
          if s.err then s.ecode
          else if regAt off = none then 6#4
          else if (regAt off).any readOnly then 7#4
          else 3#4 }

/-- R77, R81, R490: a read of a mapped register has no effect on the core; idle, it returns the register's value, every time;
while a command is pending it returns a free value and no error, except for STATUS and CMD. The free values are the model's
(log entry 10): the statement holds whatever they are. -/
def Obligations.ReadsHaveNoEffect : Prop :=
  ∀ (s : State) (r : Reg), r ≠ .cmd →
    (s.busy = false ∨ r = .status →
      s.hostRead (BitVec.ofNat 12 (regOffset r)) = { s with rdata := s.regValue r } ∧
      (s.hostRead (BitVec.ofNat 12 (regOffset r))).hostRead (BitVec.ofNat 12 (regOffset r)) =
        s.hostRead (BitVec.ofNat 12 (regOffset r))) ∧
    (s.busy = true → r ≠ .status →
      s.hostRead (BitVec.ofNat 12 (regOffset r)) =
        { s with rdata := Config.busyRead s.oracle, oracle := s.oracle + 1 })

/-- R40, R41, R42: the fields of STATUS, PSINFO and FITINFO as a host reads them, the bits that read 0 among them. -/
def Obligations.StatusViews : Prop :=
  ∀ s : State,
    (s.regValue .status).getLsbD 0 = s.busy ∧ (s.regValue .status).getLsbD 1 = s.done ∧
    (s.regValue .status).getLsbD 2 = s.err ∧ (s.regValue .status).getLsbD 3 = false ∧
    (s.regValue .status).extractLsb' 4 4 = (if s.err then s.ecode else 0#4) ∧
    (s.regValue .status).extractLsb' 8 8 = s.lastop ∧ (s.regValue .status).extractLsb' 16 16 = 0#16 ∧
    (s.ps.count ≤ 16 → ((s.regValue .psInfo).extractLsb' 0 5).toNat = s.ps.count) ∧
    (s.regValue .psInfo).getLsbD 8 = s.ps.transparent ∧ (s.regValue .psInfo).getLsbD 9 = s.ps.valid ∧
    (s.regValue .psInfo).extractLsb' 16 9 = s.ps.cfg ∧
    (s.regValue .psInfo).extractLsb' 5 3 = 0#3 ∧ (s.regValue .psInfo).extractLsb' 10 6 = 0#6 ∧
    (s.regValue .psInfo).extractLsb' 25 7 = 0#7 ∧
    (s.regValue .fitInfo).extractLsb' 0 2 =
      (match s.fit.kind with | .none => 0#2 | .single => 1#2 | .range => 2#2 | .cluster => 3#2) ∧
    (s.regValue .fitInfo).getLsbD 2 = s.fit.valid ∧ (s.regValue .fitInfo).getLsbD 3 = s.fit.mode4 ∧
    (s.regValue .fitInfo).extractLsb' 11 21 = 0#21 ∧
    (s.iters ≤ 8 → ((s.regValue .fitInfo).extractLsb' 4 4).toNat = s.iters) ∧
    (s.bestIter ≤ 7 → ((s.regValue .fitInfo).extractLsb' 8 3).toNat = s.bestIter)

/-- R40, R450: a write to STATUS, busy or not, clears DONE and (with ECODE) ERR where it writes 1, and ignores every other
bit. -/
def Obligations.StatusWrite : Prop :=
  ∀ (s : State) (v : Word),
    s.hostWrite 0x00C#12 v =
      { s with
        done := if v.getLsbD 1 then false else s.done
        err := if v.getLsbD 2 then false else s.err
        ecode := if v.getLsbD 2 then 0#4 else s.ecode }

/-- R37, R38: ECFG always reads `Normalise(CFG)`, a write to it raises E_RO_WRITE, and a change of CFG shows in it at
once. -/
def Obligations.EcfgIsCombinational : Prop :=
  ∀ (s : State) (v : Word),
    s.regValue .ecfg = (normalise s.cfg).zeroExtend 32 ∧
    s.hostWrite 0x010#12 v = { s with err := true, ecode := if s.err then s.ecode else 7#4 } ∧
    (s.busy = false →
      (s.hostWrite 0x000#12 v).regValue .ecfg = (normalise (v.extractLsb' 0 9)).zeroExtend 32)

/-! ### Steps, reset and the invariant -/

/-- R60, R480, R481: a reset, at any point and also while a command is pending, gives every piece of the core's state its
reset value, and every register reads 0 but ECFG, which reads 0x029. The model's own fields keep their values, which is the
model's choice (log entry 18). -/
def Obligations.ResetState : Prop :=
  ∀ (s : State) (rest : List Event), s.events = .reset :: rest →
    ∃ t : State, step s = .next t ∧
      t = { State.reset with events := rest, oracle := s.oracle, rdata := s.rdata } ∧
      t.busy = false ∧ t.pending = 0#8 ∧ t.lastop = 0#8 ∧ t.ps.valid = false ∧
      (∀ i : Fin 16, t.ps.remap[i] = none) ∧
      ∀ r : Reg, t.regValue r = if r = .ecfg then 0x029#32 else 0#32

/-- R80, R101, R450, R454: the step of a pending command is the meaning of the command its OP decodes to. It is taken at a
core-step event, or when the host has no event left. An accepted CMD write makes its command the pending one. The events
list is the model's own (log entries 1, 2). -/
def Obligations.StepRunsPendingCommand : Prop :=
  (∀ (s : State) (i : Instr), s.events = [] → s.busy = true → s.pending = (encode i).extractLsb' 0 8 →
    step s = exec i s) ∧
  (∀ (s : State) (i : Instr) (rest : List Event), s.events = .coreStep :: rest → s.busy = true →
    s.pending = (encode i).extractLsb' 0 8 → step s = exec i { s with events := rest }) ∧
  (∀ (s : State) (i : Instr) (w : Word) (rest : List Event), s.events = .write 0x008#12 w :: rest → s.busy = false →
    decode w = .ok i →
    step s = .next { s with events := rest, done := false, lastop := i.opcode, pending := i.opcode, busy := true }) ∧
  (∀ s : State, s.events = [] → s.busy = false → step s = .next s) ∧
  (∀ (s : State) (i : Instr),
    step (s.withFetchWord 32 (encode i).toNat) =
      exec i { s with done := false, lastop := i.opcode, pending := i.opcode, busy := true, events := [] })

/-- R452, R454: an error is sticky. A step from a state with ERR = 1 keeps ERR and ECODE, unless it is a write of 1 to
STATUS.ERR (R40) or a reset (R480). -/
def Obligations.ErrorIsSticky : Prop :=
  ∀ s t : State, step s = .next t → s.err = true →
    (t.err = true ∧ t.ecode = s.ecode) ∨
    (∃ (v : Word) (rest : List Event), s.events = .write 0x00C#12 v :: rest ∧ v.getLsbD 2 = true) ∨
    (∃ rest : List Event, s.events = .reset :: rest)

/-- The invariant holds after reset (R60). -/
def Obligations.InvariantAtReset : Prop := State.reset.Inv

/-- Every step keeps the invariant: the legal ranges of the status fields, of the point-set file, of the iteration counters
and of the ordering history (R40 to R48, R190, R197, R451). -/
def Obligations.InvariantKept : Prop :=
  ∀ s t : State, s.Inv → step s = .next t → t.Inv

/-- R456, R464: nothing stops the core. From a state that meets the invariant, whatever the host does, every run goes on:
errors are recorded, never a fault or a refusal. -/
def Obligations.RunsNeverStop : Prop := ∀ s : State, s.Inv → SafeRun s

/-- R80, R490: a pending command sees the operands of its acceptance. Any number of host accesses before the core's step
change only the STATUS bits a host may change, and the model's own fields. -/
def Obligations.PendingOperandsStable : Prop :=
  ∀ (accesses rest : List Event) (s : State),
    (∀ e ∈ accesses, (∃ off v, e = .write off v) ∨ (∃ off, e = .read off)) →
    s.busy = true → s.events = accesses ++ rest →
    ∃ t : State, Host.Core.run Sys2Proof.core accesses.length s = .next t ∧
      t = { s with
        done := t.done, err := t.err, ecode := t.ecode, events := rest, oracle := t.oracle, rdata := t.rdata }

/-- R82, R131, R454: `RUN <MNEMONIC>`, with any number of STATUS reads before the core's step, runs exactly that command: the
reads find BUSY = 1, the last one BUSY = 0 and every effect of the command. -/
def Obligations.RunScriptCompletes : Prop :=
  ∀ (s : State) (i : Instr) (polls : Nat) (rest : List Event), s.busy = false → s.events = runScript i polls ++ rest →
    ∃ u t : State,
      Host.Core.run Sys2Proof.core (polls + 1) s = .next u ∧ u.busy = true ∧
      (0 < polls → u.rdata.getLsbD 0 = true) ∧
      exec i { u with events := .read 0x00C#12 :: rest } = .next t ∧
      Host.Core.run Sys2Proof.core (polls + 3) s = .next { t with events := rest, rdata := t.regValue .status } ∧
      t.busy = false ∧ (t.regValue .status).getLsbD 0 = false

/-! ### Commands: outcome and frame -/

/-- R450 to R454, R35, R36: how every command ends. It always answers a next state with BUSY = 0. It raises the error R451
gives it (4 E_NO_PS, 5 E_COUNT, 8 E_OPERAND) exactly under that rule's condition, and then changes nothing but ERR, ECODE and
BUSY; otherwise it sets DONE and leaves ERR and ECODE. It never writes CFG, MASK, LASTOP or the pending OP. -/
def Obligations.CommandOutcome : Prop :=
  ∀ (i : Instr) (s : State),
    (stepError i s = none ∨ stepError i s = some .noPs ∨ stepError i s = some .count ∨ stepError i s = some .operand) ∧
    (stepError i s = some .noPs →
      exec i s = .next { s with err := true, ecode := if s.err then s.ecode else 4#4, busy := false }) ∧
    (stepError i s = some .count →
      exec i s = .next { s with err := true, ecode := if s.err then s.ecode else 5#4, busy := false }) ∧
    (stepError i s = some .operand →
      exec i s = .next { s with err := true, ecode := if s.err then s.ecode else 8#4, busy := false }) ∧
    (stepError i s = none →
      ∃ t : State, exec i s = .next t ∧ t.done = true ∧ t.busy = false ∧ t.err = s.err ∧ t.ecode = s.ecode ∧
        t.cfg = s.cfg ∧ t.mask = s.mask ∧ t.lastop = s.lastop ∧ t.pending = s.pending ∧ t.events = s.events ∧
        t.oracle = s.oracle ∧ t.rdata = s.rdata)

/-- The state each command leaves alone (the 'State written' lines of R195, R235, R280, R310, R340, R341, R345, R375, R376,
R390, R395, R410 to R414). -/
def Obligations.CommandFrame : Prop :=
  ∀ (i : Instr) (s t : State), exec i s = .next t →
    (i ∉ [Instr.decompress, .colourDec, .alpha3Dec, .alpha5Dec] → t.texel = s.texel) ∧
    (i ∈ [Instr.alpha3Dec, .alpha5Dec] →
      ∀ k : Fin 16, texelR t.texel[k] = texelR s.texel[k] ∧ texelG t.texel[k] = texelG s.texel[k] ∧
        texelB t.texel[k] = texelB s.texel[k]) ∧
    (∀ n : Fin 16, writesBlockByte i s n = false → t.blockByte n = s.blockByte n) ∧
    (i ∉ [Instr.psBuild, .compress, .compressMasked, .clear] → t.ps = s.ps) ∧
    (i ∉ [Instr.fitAuto, .fitSingle, .fitRange, .fitCluster, .compress, .compressMasked, .clear] → t.fit = s.fit) ∧
    (i ∉ [Instr.fitAuto, .fitRange, .fitCluster, .compress, .compressMasked, .clear] → t.besterr = s.besterr) ∧
    (i ∉ [Instr.fitAuto, .fitSingle, .compress, .compressMasked, .clear] → t.besterrI = s.besterrI) ∧
    (i ∉ [Instr.alpha5Enc, .compress, .compressMasked, .clear] → t.aerr5 = s.aerr5 ∧ t.aerr7 = s.aerr7) ∧
    (i ∉ [Instr.fitAuto, .fitCluster, .compress, .compressMasked, .clear] →
      t.iters = s.iters ∧ t.bestIter = s.bestIter ∧ t.order = s.order)

/-- R410, R414: NOP changes nothing but the status; CLEAR returns the derived state to its reset values, keeps the operands
and the block buffer, and leaves every fit command raising E_NO_PS. -/
def Obligations.NopAndClear : Prop :=
  decode 0x00000000#32 = .ok .nop ∧ decode 0x00000004#32 = .ok .clear ∧
  (∃ t : State, exec .nop (State.reset.accept 0x00#8) = .next t ∧ t.regValue .status = 0x00000002#32) ∧
  ∀ s : State,
    exec .nop s = .next { s with done := true, busy := false } ∧
    ∃ t : State, exec .clear s = .next t ∧
      t = { s with
        done := true, busy := false, ps := State.reset.ps, fit := State.reset.fit, besterr := ⟨0x00000000#32⟩,
        besterrI := 0#32, aerr5 := 0#32, aerr7 := 0#32, iters := 0, bestIter := 0,
        order := Vector.replicate 128 0#8 } ∧
      ∀ i ∈ [Instr.fitAuto, .fitSingle, .fitRange, .fitCluster],
        exec i t = .next { t with err := true, ecode := if t.err then t.ecode else 4#4, busy := false }

/-! ### The point set -/

/-- R190 to R192, R195, R197: PS_BUILD completes from every state and builds exactly the deduplicated, weighted set of the
colours of the slots that are valid and, in BC1, opaque, in the order of their first slots; it writes nothing else. -/
def Obligations.PsBuildDeduplicates : Prop :=
  ∀ s : State, ∃ t : State, exec .psBuild s = .next t ∧
    t = { s with ps := t.ps, done := true, busy := false } ∧
    t.ps.valid = true ∧ t.ps.cfg = normalise s.cfg ∧ t.ps.count ≤ 16 ∧
    (t.ps.transparent = true ↔
      isBC1 (normalise s.cfg) = true ∧ ∃ i : Fin 16, slotValid s.mask i = true ∧ (texelA s.texel[i]).toNat < 128) ∧
    (∀ i : Fin 16, t.ps.remap[i] = none ↔ inPointSet s.texel s.mask (normalise s.cfg) i = false) ∧
    (∀ i j : Fin 16, inPointSet s.texel s.mask (normalise s.cfg) i = true →
      inPointSet s.texel s.mask (normalise s.cfg) j = true →
      (t.ps.remap[i] = t.ps.remap[j] ↔
        texelR s.texel[i] = texelR s.texel[j] ∧ texelG s.texel[i] = texelG s.texel[j] ∧
          texelB s.texel[i] = texelB s.texel[j])) ∧
    (∀ i k : Fin 16, t.ps.remap[i] = some k → k.val < t.ps.count ∧ t.ps.point[k] = normalise8 s.texel[i]) ∧
    (∀ k : Fin 16, k.val < t.ps.count → ∃ i : Fin 16, t.ps.remap[i] = some k) ∧
    (∀ j l k : Fin 16, t.ps.remap[j] = some l → k < l → ∃ i : Fin 16, i < j ∧ t.ps.remap[i] = some k) ∧
    (∀ k : Fin 16, k.val < t.ps.count → ∃ (i : Fin 16) (is : List (Fin 16)),
      slots.filter (fun j => t.ps.remap[j] = some k) = i :: is ∧
      t.ps.weight[k] =
        (is.foldl (fun w j => w.add (texelWeight s.texel[j] (normalise s.cfg)))
          (texelWeight s.texel[i] (normalise s.cfg))).sqrt) ∧
    (∀ k : Fin 16, t.ps.count ≤ k.val → t.ps.point[k] = zeroVec3 ∧ t.ps.weight[k] = ⟨0x00000000#32⟩)

/-- R192: per-texel weights are multiples of 1/256 and every addition of accumulated weights is exact. -/
def Obligations.WeightSumsExact : Prop :=
  ∀ a b : Nat, 1 ≤ a → 1 ≤ b → a + b ≤ 4096 →
    ((F32.ofNat a).div f256).add ((F32.ofNat b).div f256) = (F32.ofNat (a + b)).div f256

/-- R198, R371, R386, R412: the content of a masked-out slot never influences what PS_BUILD, COMPRESS_MASKED, ALPHA3_ENC or
ALPHA5_ENC leaves. -/
def Obligations.MaskedSlotsNeverInfluence : Prop :=
  ∀ (i : Instr) (s t : State) (T : Vector Word 16),
    i ∈ [Instr.psBuild, .compressMasked, .alpha3Enc, .alpha5Enc] →
    (∀ k : Fin 16, slotValid s.mask k = true → T[k] = s.texel[k]) →
    exec i s = .next t → exec i { s with texel := T } = .next { t with texel := T }

/-! ### Whole-block commands and their stages -/

/-- R411, R412, R415, R463: COMPRESS_MASKED completes from every state and leaves exactly the state that its stage commands
leave when issued one at a time: PS_BUILD, FIT_AUTO, then the alpha encoder of the format. -/
def Obligations.CompressMaskedIsItsStages : Prop :=
  ∀ s : State, ∃ s1 s2 t : State,
    exec .compressMasked s = .next t ∧ exec .psBuild s = .next s1 ∧ exec .fitAuto s1 = .next s2 ∧
    (isBC1 (normalise s.cfg) = true → t = s2) ∧
    (isBC2 (normalise s.cfg) = true → exec .alpha3Enc s2 = .next t) ∧
    (isBC3 (normalise s.cfg) = true → exec .alpha5Enc s2 = .next t)

/-- R36, R411, R412: COMPRESS completes from every state and is COMPRESS_MASKED with every slot valid; it neither reads nor
writes MASK. -/
def Obligations.CompressIsFullMask : Prop :=
  ∀ s : State, ∃ t : State, exec .compress s = .next t ∧ t.mask = s.mask ∧
    exec .compressMasked { s with mask := 0xFFFF#16 } = .next { t with mask := 0xFFFF#16 } ∧
    ∀ m : BitVec 16, exec .compress { s with mask := m } = .next { t with mask := m }

/-- R345, R376, R395, R413: DECOMPRESS completes from every state and leaves exactly the state of COLOUR_DEC followed by the
alpha decoder of the format. -/
def Obligations.DecompressIsItsStages : Prop :=
  ∀ s : State, ∃ s1 t : State, exec .decompress s = .next t ∧ exec .colourDec s = .next s1 ∧
    (isBC1 (normalise s.cfg) = true → t = s1) ∧
    (isBC2 (normalise s.cfg) = true → exec .alpha3Dec s1 = .next t) ∧
    (isBC3 (normalise s.cfg) = true → exec .alpha5Dec s1 = .next t)

/-- R413, R416 item 3: what DECOMPRESS leaves in the texel registers depends only on the block bytes of the format and on
`Normalise(CFG)`; so a second DECOMPRESS changes nothing. -/
def Obligations.DecompressIsPure : Prop :=
  ∀ s s' t t' : State, normalise s'.cfg = normalise s.cfg →
    (∀ n : Fin 16, n.val < bytesPerBlock (normalise s.cfg) → s'.blockByte n = s.blockByte n) →
    exec .decompress s = .next t → exec .decompress s' = .next t' →
    t'.texel = t.texel ∧ exec .decompress t = .next t

/-! ### The fits -/

/-- R415: FIT_AUTO runs the single-colour fit for one point, else the range fit if the latched flags choose it or the set is
empty, else the cluster fit. -/
def Obligations.FitAutoDispatch : Prop :=
  ∀ s : State, s.ps.valid = true →
    exec .fitAuto s =
      exec (if s.ps.count = 1 then .fitSingle
        else if isRange s.ps.cfg = true ∨ s.ps.count = 0 then .fitRange else .fitCluster) s

/-- R199, R231: whatever fit runs, a candidate it writes is a 4-colour block outside BC1 and a 3-colour block for a
transparent BC1 set, and the fit command completes. -/
def Obligations.TrialModes : Prop :=
  ∀ (i : Instr) (s : State), i ∈ [Instr.fitAuto, .fitSingle, .fitRange, .fitCluster] → stepError i s = none →
    ∃ t : State, exec i s = .next t ∧ t.done = true ∧
      (t.fit.valid = true → isBC1 s.ps.cfg = false → t.fit.mode4 = true) ∧
      (t.fit.valid = true → isBC1 s.ps.cfg = true → s.ps.transparent = true → t.fit.mode4 = false)

/-- R44, R233, R340: after a fit command wrote a candidate, packing the fit-result registers again (PACK3 for a 3-colour
candidate, PACK4 for a 4-colour one, under a CFG of the same block layout) leaves the very same state. -/
def Obligations.FitThenPackReproduces : Prop :=
  ∀ (i : Instr) (s t : State), i ∈ [Instr.fitAuto, .fitSingle, .fitRange, .fitCluster] → stepError i s = none →
    exec i s = .next t → t.fit.valid = true → t.fit.lanesFinite = true →
    isBC1 (normalise s.cfg) = isBC1 s.ps.cfg →
    exec (if t.fit.mode4 then .pack4 else .pack3) t = .next t

/-- R236 item 1, R281 item 1, R330: every endpoint lane a range or cluster fit writes is on the 5:6:5 grid, and the quantiser
recovers its field exactly. -/
def Obligations.FitEndpointsOnGrid : Prop :=
  ∀ (i : Instr) (s t : State), i ∈ [Instr.fitRange, .fitCluster] → stepError i s = none →
    exec i s = .next t → t.fit.valid = true → ∀ v ∈ [t.fit.start, t.fit.stop],
      ∃ r g b : Nat, r ≤ 31 ∧ g ≤ 63 ∧ b ≤ 31 ∧
        v = ⟨(F32.ofNat r).mul rcp31, (F32.ofNat g).mul rcp63, (F32.ofNat b).mul rcp31⟩ ∧
        floatTo565 v = BitVec.ofNat 16 (2048 * r + 32 * g + b)

/-- R303 to R305, R310: what FIT_SINGLE leaves for a one-point set. -/
def Obligations.FitSingleResult : Prop :=
  ∀ (s : State) (c3 c4 w : SingleResult) (three : Bool) (idx : Vector (BitVec 2) 16),
    s.ps.valid = true → s.ps.count = 1 → (∀ i k : Fin 16, s.ps.remap[i] = some k → k = 0) →
    c3 = computeEndPoints Config.params .three (singleColour s.ps.point[0]) →
    c4 = computeEndPoints Config.params .four (singleColour s.ps.point[0]) →
    three = (isBC1 s.ps.cfg && (s.ps.transparent || decide (c3.err ≤ c4.err))) →
    w = (if three then c3 else c4) →
    idx = (Vector.ofFn fun i => if s.ps.remap[i] = none then 3#2 else w.index) →
    exec .fitSingle s = .next
      { s.writeBlockHalf (!isBC1 s.ps.cfg)
          (if three then writeColourBlock3 w.start w.stop idx else writeColourBlock4 w.start w.stop idx) with
        fit := ⟨true, .single, !three, w.start, w.stop, idx⟩
        besterrI := BitVec.ofNat 32 w.err
        done := true
        busy := false }

/-- R301: the default table entries are exact and minimal: the recorded error is the error of the recorded endpoints, no
other endpoints do better, and the error is at most 4 for 5 bits and 2 for 6 bits. The tables are the spec's default, not the
shipped ones (log entry 7). -/
def Obligations.ScfTableMinimal : Prop :=
  ∀ (d : ChannelDepth) (z : CodebookSize) (t : Byte),
    let e := scfLutDefault d z t
    e.src0.start = e.src0.stop ∧ e.src0.start.toNat < 2 ^ d.bits ∧
    e.src0.error.toNat = absDiff (scfExpand d e.src0.start.toNat) t.toNat ∧
    (∀ p : Nat, p < 2 ^ d.bits → e.src0.error.toNat ≤ absDiff (scfExpand d p) t.toNat) ∧
    e.src1.start.toNat < 2 ^ d.bits ∧ e.src1.stop.toNat < 2 ^ d.bits ∧
    e.src1.error.toNat = absDiff (scfInterp z d e.src1.start.toNat e.src1.stop.toNat) t.toNat ∧
    (∀ p q : Nat, p < 2 ^ d.bits → q < 2 ^ d.bits → e.src1.error.toNat ≤ absDiff (scfInterp z d p q) t.toNat) ∧
    e.src0.error.toNat ≤ (match d with | .five => 4 | .six => 2) ∧
    e.src1.error.toNat ≤ (match d with | .five => 4 | .six => 2)

/-- R312: the error FIT_SINGLE reports is the true decoded error. For a tile whose point set is one colour, PS_BUILD,
FIT_SINGLE and COLOUR_DEC complete, and every slot of the set decodes with a squared RGB error of exactly BESTERR_I, at most
48. The machine runs at the default tables of R301, which is the model's choice of P_SCF_LUT (log entry 7): with other tables
neither the exact error nor the bound need hold. -/
def Obligations.SingleColourDecodedError : Prop :=
  ∀ s s1 : State, exec .psBuild s = .next s1 → s1.ps.count = 1 →
    ∃ s2 s3 : State, exec .fitSingle s1 = .next s2 ∧ exec .colourDec s2 = .next s3 ∧
      s2.fit.valid = true ∧ s2.besterrI.toNat ≤ 48 ∧
      ∀ i : Fin 16, inPointSet s.texel s.mask (normalise s.cfg) i = true →
        rgbError s.texel[i] s3.texel[i] = s2.besterrI.toNat

/-- R228 to R233, R235: what FIT_RANGE leaves. The endpoints are the snapped clamps of the first point of least and the first
point of greatest projection on the axis (projections being no NaN), both zero for an empty set. The trials are those R231
allows; BESTERR is the error of the first best one; a candidate is written only by a trial whose error is strictly below the
running best, so the 4-colour trial is the one written in BC1 only if its error is strictly below the 3-colour one's or the
3-colour trial wrote nothing. -/
def Obligations.FitRangeResult : Prop :=
  ∀ (s : State) (pts : List Vec3) (dp : Vec3 → F32) (e : Vec3 × Vec3) (trials : List (Bool × List (BitVec 2) × F32)),
    s.ps.valid = true →
    pts = s.ps.used.map Prod.fst → (∀ p : Vec3, dp p = p.dot (principalAxis Config.params.libm s.ps)) →
    e = rangeEndpoints Config.params.libm s.ps →
    trials =
      (if isBC1 s.ps.cfg = true ∧ s.ps.transparent = true then
        [(false, assign (metric3 s.ps.cfg) (rangeCodes3 e.1 e.2) pts)]
      else if isBC1 s.ps.cfg = true then
        [(false, assign (metric3 s.ps.cfg) (rangeCodes3 e.1 e.2) pts),
         (true, assign (metric3 s.ps.cfg) (rangeCodes4 e.1 e.2) pts)]
      else [(true, assign (metric3 s.ps.cfg) (rangeCodes4 e.1 e.2) pts)]) →
    (pts = [] → e = (zeroVec3, zeroVec3)) ∧
    ((∀ p ∈ pts, (dp p).isNaN = false) →
      (∀ (k : Nat) (p : Vec3), pts[k]? = some p →
        (∀ (j : Nat) (q : Vec3), pts[j]? = some q → (dp q).lt (dp p) = false ∧ (j < k → (dp p).lt (dp q) = true)) →
        e.1 = quantiseGrid p.clamp01) ∧
      (∀ (k : Nat) (p : Vec3), pts[k]? = some p →
        (∀ (j : Nat) (q : Vec3), pts[j]? = some q → (dp p).lt (dp q) = false ∧ (j < k → (dp q).lt (dp p) = true)) →
        e.2 = quantiseGrid p.clamp01)) ∧
    ∃ t : State, exec .fitRange s = .next t ∧
      t = { s with block := t.block, fit := t.fit, besterr := t.besterr, done := true, busy := false } ∧
      t.fit.kind = .range ∧
      (∀ r ∈ trials, r.2.2.lt t.besterr = false) ∧
      (t.fit.valid = false → t.besterr = F32.fltMax ∧ t.block = s.block ∧ t.fit = { s.fit with kind := .range, valid := false }) ∧
      (t.fit.valid = true → t.fit.start = e.1 ∧ t.fit.stop = e.2 ∧
        t.block = (s.writeBlockHalf (!isBC1 s.ps.cfg) (candidateBytes t.fit.mode4 e.1 e.2 t.fit.idx)).block ∧
        (t.fit.mode4 = true → ∀ r ∈ trials, r.1 = false → t.besterr.lt r.2.2 = true ∨ r.2.2.lt F32.fltMax = false) ∧
        ∃ r ∈ trials, t.fit.mode4 = r.1 ∧ t.besterr = r.2.2 ∧
          ∀ i : Fin 16, t.fit.idx[i] = (match s.ps.remap[i] with | none => 3#2 | some k => r.2.1.getD k.val 0#2))

/-- R235, corner case n = 0: the range fit of an empty set writes the 3-colour block of all index 3 in BC1 and the zero
4-colour block in BC2 and BC3, with error 0. -/
def Obligations.FitRangeEmptySet : Prop :=
  ∀ s : State, s.ps.valid = true → s.ps.count = 0 → (∀ i : Fin 16, s.ps.remap[i] = none) →
    ∃ t : State, exec .fitRange s = .next t ∧ t.fit.valid = true ∧ t.besterr = ⟨0x00000000#32⟩ ∧
      t.fit.start = zeroVec3 ∧ t.fit.stop = zeroVec3 ∧
      (isBC1 s.ps.cfg = true → t.fit.mode4 = false ∧
        t.blockHalf false = #v[0x00#8, 0x00#8, 0x00#8, 0x00#8, 0xFF#8, 0xFF#8, 0xFF#8, 0xFF#8]) ∧
      (isBC1 s.ps.cfg = false → t.fit.mode4 = true ∧ t.blockHalf true = Vector.replicate 8 0x00#8)

/-- R230: the code `Assign` gives a point has the least metric distance, the first of equal ones, as far as distances below
FLT_MAX go. -/
def Obligations.RangeAssignNearest : Prop :=
  ∀ (metric : Vec3) (codes : List Vec3) (p : Vec3) (dist : Nat → F32),
    (∀ j : Nat, dist j = (metric.mul (p.sub (codes.getD j zeroVec3))).lengthSquared) →
    (∀ j : Nat, j < codes.length → (dist j).lt (nearestColour metric codes p).1 = false) ∧
    ((nearestColour metric codes p).1 = F32.fltMax ∨
      ((nearestColour metric codes p).2 < codes.length ∧
       (nearestColour metric codes p).1 = dist (nearestColour metric codes p).2 ∧
       ∀ j : Nat, j < (nearestColour metric codes p).2 →
         (nearestColour metric codes p).1.lt (dist j) = true ∨ (dist j).isNaN = true))

/-- R231, R270 to R272, R275, R276, R280: what FIT_CLUSTER leaves. `r3` and `r4` are the searches of its trials, the second
from the history and the running best the first leaves; a trial wins if its search's error is strictly below the running best,
and the candidate is that of the last trial that won: the endpoints of its best partition, and at each slot the index of the
rank of the slot's point in the ordering that partition was found in. -/
def Obligations.FitClusterResult : Prop :=
  ∀ (s : State) (axis : Vec3) (r3 r4 : SearchResult) (bc1 won3 run4 won4 : Bool) (best3 : F32),
    s.ps.valid = true → bc1 = isBC1 s.ps.cfg → axis = principalAxis Config.params.libm s.ps →
    r3 = clusterSearch .three s.ps.cfg s.ps.used axis s.order F32.fltMax →
    won3 = (bc1 && r3.best.error.compareAnyLessThan (Vec4.splat F32.fltMax)) →
    best3 = (if won3 then r3.best.error.x else F32.fltMax) →
    r4 = clusterSearch .four s.ps.cfg s.ps.used axis (if bc1 then r3.order else s.order) best3 →
    run4 = !(bc1 && s.ps.transparent) →
    won4 = (run4 && r4.best.error.compareAnyLessThan (Vec4.splat best3)) →
    ∃ t : State, exec .fitCluster s = .next t ∧
      t = { s with
        block := t.block, fit := t.fit, besterr := t.besterr, iters := t.iters, bestIter := t.bestIter, order := t.order,
        done := true, busy := false } ∧
      t.fit.kind = .cluster ∧ t.fit.valid = (won3 || won4) ∧
      t.iters = (if run4 then r4 else r3).tried ∧ t.order = (if run4 then r4 else r3).order ∧
      1 ≤ t.iters ∧ t.iters ≤ 8 ∧
      (isIterative s.ps.cfg = false → t.iters = 1 ∧ (t.fit.valid = true → t.bestIter = 0)) ∧
      (t.fit.valid = false →
        t.besterr = F32.fltMax ∧ t.block = s.block ∧ t.bestIter = s.bestIter ∧
        t.fit = { s.fit with kind := .cluster, valid := false }) ∧
      (t.fit.valid = true → ∀ w : SearchResult, w = (if won4 then r4 else r3) →
        t.fit.mode4 = won4 ∧ t.besterr = w.best.error.x ∧ t.bestIter = w.best.it ∧ t.bestIter ≤ 7 ∧
        t.fit.start = w.best.start.getVec3 ∧ t.fit.stop = w.best.stop.getVec3 ∧
        (∀ i : Fin 16, s.ps.remap[i] = none → t.fit.idx[i] = 3#2) ∧
        (∀ (i k : Fin 16) (m : Nat), s.ps.remap[i] = some k → m < s.ps.used.length →
          orderByte w.order (16 * w.best.it + m) = BitVec.ofNat 8 k.val →
          t.fit.idx[i] =
            (if m < w.best.i then 0#2 else if m < w.best.j then 2#2
             else if won4 = true ∧ m < w.best.k then 3#2 else 1#2)) ∧
        (∀ k : Nat, k < s.ps.used.length →
          ∃ m : Nat, m < s.ps.used.length ∧ orderByte w.order (16 * w.best.it + m) = BitVec.ofNat 8 k) ∧
        t.block =
          (s.writeBlockHalf (!isBC1 s.ps.cfg) (candidateBytes t.fit.mode4 t.fit.start t.fit.stop t.fit.idx)).block) ∧
      (s.ps.count = 0 → t.fit.valid = false ∧ t.iters = 1)

/-- R261: `ConstructOrdering` sorts: the ordering is a permutation of the points, every entry carries the point, the weight and
the projection on the axis of the point it names, and (projections being no NaN) the entries are stably sorted by projection. -/
def Obligations.OrderingIsStableSort : Prop :=
  ∀ (axis : Vec3) (pts : List (Vec3 × F32)),
    ((sortAlong axis pts).map Ranked.k).Perm (List.range pts.length) ∧
    (∀ r ∈ sortAlong axis pts, pts[r.k]? = some (r.p, r.w) ∧ r.dp = r.p.dot axis) ∧
    ((∀ p ∈ pts, (p.1.dot axis).isNaN = false) →
      (sortAlong axis pts).Pairwise fun x y => x.dp.lt y.dp = true ∨ (y.dp.lt x.dp = false ∧ x.k < y.k))

/-- R227, R263: along the zero axis every ordering is the identity. -/
def Obligations.ZeroAxisIdentityOrdering : Prop :=
  ∀ pts : List (Vec3 × F32), (sortAlong zeroVec3 pts).map Ranked.k = List.range pts.length

/-- R265, R266: the partition search is exhaustive. No partition of the ordered points that the rules enumerate has an error
below the one the search leaves, and what it leaves is the incoming best or one of those partitions. -/
def Obligations.PartitionSearchExhaustive : Prop :=
  ∀ (metric : Vec4) (it : Nat) (pw : List Vec4) (b : Search) (e : F32) (sumFrom sumSkip : Nat → Nat → Vec4),
    b.error = Vec4.splat e →
    -- the points i .. j-1, added to zero
    (∀ i j : Nat, sumFrom i j = ((pw.drop i).take (j - i)).foldl Vec4.add zero4) →
    -- the same, but a cluster that starts with point 0 starts at that point
    (∀ i j : Nat, sumSkip i j = if i = 0 then ((pw.drop 1).take (j - 1)).foldl Vec4.add (pw.getD 0 zero4) else sumFrom i j) →
    (∀ i j : Nat, i < pw.length → i ≤ j → j ≤ pw.length → 0 < j →
      (solve3 metric (sumVec4 pw) (sumFrom 0 i) (sumSkip i j)).err.compareAnyLessThan
        (enumerate .three metric it pw b).error = false) ∧
    (enumerate .three metric it pw b = b ∨
      ∃ (i j : Nat) (r : Solution), i < pw.length ∧ i ≤ j ∧ j ≤ pw.length ∧ 0 < j ∧
        r = solve3 metric (sumVec4 pw) (sumFrom 0 i) (sumSkip i j) ∧
        enumerate .three metric it pw b = ⟨r.err, r.a, r.b, i, j, 0, it⟩) ∧
    (∀ i j k : Nat, i < pw.length → i ≤ j → j ≤ k → k ≤ pw.length → 0 < k →
      (solve4 metric (sumVec4 pw) (sumFrom 0 i) (sumFrom i j) (sumSkip j k)).err.compareAnyLessThan
        (enumerate .four metric it pw b).error = false) ∧
    (enumerate .four metric it pw b = b ∨
      ∃ (i j k : Nat) (r : Solution), i < pw.length ∧ i ≤ j ∧ j ≤ k ∧ k ≤ pw.length ∧ 0 < k ∧
        r = solve4 metric (sumVec4 pw) (sumFrom 0 i) (sumFrom i j) (sumSkip j k) ∧
        enumerate .four metric it pw b = ⟨r.err, r.a, r.b, i, j, k, it⟩)

/-- R281 item 3: the iterative cluster fit's result error is never higher than the non-iterative one's, for the same point
set, format and metric. -/
def Obligations.IterativeClusterNeverWorse : Prop :=
  ∀ (s : State) (f : BitVec 9), s.ps.valid = true →
    isIterative s.ps.cfg = false → isIterative f = true → isBC1 f = isBC1 s.ps.cfg →
    isPerceptual f = isPerceptual s.ps.cfg →
    ∃ t u : State, exec .fitCluster s = .next t ∧
      exec .fitCluster { s with ps := { s.ps with cfg := f } } = .next u ∧
      t.besterr.lt u.besterr = false

/-! ### The colour codec -/

/-- R332 to R334, R340, R341: PACK3 and PACK4 complete when the six endpoint lanes are finite. They write the colour half of
the format in CFG: PACK3 with the lower packed endpoint first and indices 0 and 1 exchanged on a swap, PACK4 with the higher
one first, every index exchanged with its neighbour on a swap and every index 0 for equal endpoints. Finite lanes of any
magnitude are clamped (R330, R331; for an overflowing product log entry 13): a lane of 1 or more gives the full field, a lane
of 0 or less gives 0. -/
def Obligations.PackCommands : Prop :=
  ∀ (s : State) (a b : BitVec 16), s.fit.lanesFinite = true →
    a = floatTo565 s.fit.start → b = floatTo565 s.fit.stop →
    (∀ v ∈ [s.fit.start, s.fit.stop],
      (v.x.lt F32.one = false → (floatTo565 v).extractLsb' 11 5 = 31#5) ∧
      (v.y.lt F32.one = false → (floatTo565 v).extractLsb' 5 6 = 63#6) ∧
      (v.z.lt F32.one = false → (floatTo565 v).extractLsb' 0 5 = 31#5) ∧
      (F32.zero.lt v.x = false → (floatTo565 v).extractLsb' 11 5 = 0#5) ∧
      (F32.zero.lt v.y = false → (floatTo565 v).extractLsb' 5 6 = 0#6) ∧
      (F32.zero.lt v.z = false → (floatTo565 v).extractLsb' 0 5 = 0#5)) ∧
    ∃ t u : State,
      exec .pack3 s = .next t ∧ t = { s with block := t.block, done := true, busy := false } ∧
      endpointA (t.blockHalf (!isBC1 (normalise s.cfg))) = (if a.toNat ≤ b.toNat then a else b) ∧
      endpointB (t.blockHalf (!isBC1 (normalise s.cfg))) = (if a.toNat ≤ b.toNat then b else a) ∧
      (∀ i : Fin 16, colourIndex (t.blockHalf (!isBC1 (normalise s.cfg))) i =
        (if a.toNat ≤ b.toNat then (s.fit.idx[i]).toFin
         else if s.fit.idx[i] = 0#2 then 1 else if s.fit.idx[i] = 1#2 then 0 else (s.fit.idx[i]).toFin)) ∧
      exec .pack4 s = .next u ∧ u = { s with block := u.block, done := true, busy := false } ∧
      endpointA (u.blockHalf (!isBC1 (normalise s.cfg))) = (if a.toNat < b.toNat then b else a) ∧
      endpointB (u.blockHalf (!isBC1 (normalise s.cfg))) = (if a.toNat < b.toNat then a else b) ∧
      (∀ i : Fin 16, colourIndex (u.blockHalf (!isBC1 (normalise s.cfg))) i =
        (if a = b then 0 else if a.toNat < b.toNat then (s.fit.idx[i] ^^^ 1#2).toFin else (s.fit.idx[i]).toFin)) ∧
      (∀ n : Fin 16, (decide (8 ≤ n.val) == !isBC1 (normalise s.cfg)) = false →
        t.blockByte n = s.blockByte n ∧ u.blockByte n = s.blockByte n)

/-- R335, R344, R346: the packers keep every slot's colour. A block of `WriteColourBlock3` decodes in BC1 to the midpoint
codebook of the unswapped endpoints, index 3 to transparent black; a block of `WriteColourBlock4` decodes, in every format
and under either value of P_BC23_COLOUR_MODE, to the one-third codebook of the unswapped endpoints, or to the one colour if
they are equal. -/
def Obligations.PackersKeepColours : Prop :=
  ∀ (a b : BitVec 16) (idx : Vector (BitVec 2) 16) (mode : ColourMode) (dxt1 : Bool) (i : Fin 16) (c d : Rgba),
    c = unpack565 a → d = unpack565 b →
    (decodeColour mode (packBlock3 a b idx) true)[i] =
      (match (idx[i]).toNat with
        | 0 => c
        | 1 => d
        | 2 => ⟨BitVec.ofNat 8 ((c.r.toNat + d.r.toNat) / 2), BitVec.ofNat 8 ((c.g.toNat + d.g.toNat) / 2),
            BitVec.ofNat 8 ((c.b.toNat + d.b.toNat) / 2), 255#8⟩
        | _ => ⟨0#8, 0#8, 0#8, 0#8⟩) ∧
    (decodeColour mode (packBlock4 a b idx) dxt1)[i] =
      (if a = b then c
       else match (idx[i]).toNat with
        | 0 => c
        | 1 => d
        | 2 => ⟨BitVec.ofNat 8 ((2 * c.r.toNat + d.r.toNat) / 3), BitVec.ofNat 8 ((2 * c.g.toNat + d.g.toNat) / 3),
            BitVec.ofNat 8 ((2 * c.b.toNat + d.b.toNat) / 3), 255#8⟩
        | _ => ⟨BitVec.ofNat 8 ((c.r.toNat + 2 * d.r.toNat) / 3), BitVec.ofNat 8 ((c.g.toNat + 2 * d.g.toNat) / 3),
            BitVec.ofNat 8 ((c.b.toNat + 2 * d.b.toNat) / 3), 255#8⟩)

/-- R346: every colour sub-block the core itself writes in BC2 or BC3 decodes alike under both values of
P_BC23_COLOUR_MODE. -/
def Obligations.EncodedBlocksModeFree : Prop :=
  ∀ (i : Instr) (s t : State),
    i ∈ [Instr.fitAuto, .fitSingle, .fitRange, .fitCluster, .compress, .compressMasked] → stepError i s = none →
    exec i s = .next t → t.fit.valid = true → isBC1 t.ps.cfg = false →
    decodeColour .compare (t.blockHalf true) false = decodeColour .force4 (t.blockHalf true) false

/-- R342 to R345: COLOUR_DEC completes from every state; each texel is the code its index names, in the mode R343 chooses. -/
def Obligations.ColourDecResult : Prop :=
  ∀ (s : State) (bytes : Vector Byte 8) (c d : Rgba) (three : Bool),
    bytes = s.blockHalf (!isBC1 (normalise s.cfg)) →
    c = unpack565 (endpointA bytes) → d = unpack565 (endpointB bytes) →
    (three = true ↔ (endpointA bytes).toNat ≤ (endpointB bytes).toNat ∧
      (isBC1 (normalise s.cfg) = true ∨ Config.bc23ColourMode = .compare)) →
    ∃ t : State, exec .colourDec s = .next t ∧ t = { s with texel := t.texel, done := true, busy := false } ∧
      ∀ i : Fin 16,
        (colourIndex bytes i = 0 → t.texel[i] = texelOf c) ∧
        (colourIndex bytes i = 1 → t.texel[i] = texelOf d) ∧
        (colourIndex bytes i = 2 →
          (texelR t.texel[i]).toNat = (if three then (c.r.toNat + d.r.toNat) / 2 else (2 * c.r.toNat + d.r.toNat) / 3) ∧
          (texelG t.texel[i]).toNat = (if three then (c.g.toNat + d.g.toNat) / 2 else (2 * c.g.toNat + d.g.toNat) / 3) ∧
          (texelB t.texel[i]).toNat = (if three then (c.b.toNat + d.b.toNat) / 2 else (2 * c.b.toNat + d.b.toNat) / 3) ∧
          texelA t.texel[i] = 255#8) ∧
        (colourIndex bytes i = 3 → three = true → t.texel[i] = 0x00000000#32) ∧
        (colourIndex bytes i = 3 → three = false →
          (texelR t.texel[i]).toNat = (c.r.toNat + 2 * d.r.toNat) / 3 ∧
          (texelG t.texel[i]).toNat = (c.g.toNat + 2 * d.g.toNat) / 3 ∧
          (texelB t.texel[i]).toNat = (c.b.toNat + 2 * d.b.toNat) / 3 ∧ texelA t.texel[i] = 255#8)

/-! ### The alpha codecs -/

/-- R370 to R372, R375 to R377: ALPHA3_ENC completes from every state and writes block bytes 0..7 only; decoding what it wrote
gives `17·round(A/17)`, within 8 of A, at every valid slot and 0 at every other; a multiple of 17 is kept exactly. -/
def Obligations.Alpha3RoundTrip : Prop :=
  ∀ s : State, ∃ t u : State,
    exec .alpha3Enc s = .next t ∧ t = { s with block := t.block, done := true, busy := false } ∧
    (∀ n : Fin 16, 8 ≤ n.val → t.blockByte n = s.blockByte n) ∧
    exec .alpha3Dec t = .next u ∧
    ∀ i : Fin 16,
      (slotValid s.mask i = false → texelA u.texel[i] = 0#8) ∧
      (slotValid s.mask i = true →
        (texelA u.texel[i]).toNat = 17 * ((2 * (texelA s.texel[i]).toNat + 17) / 34) ∧
        (texelA u.texel[i]).toNat ≤ (texelA s.texel[i]).toNat + 8 ∧
        (texelA s.texel[i]).toNat ≤ (texelA u.texel[i]).toNat + 8 ∧
        ((texelA s.texel[i]).toNat % 17 = 0 → texelA u.texel[i] = texelA s.texel[i]))

/-- R72, R372, R376, R392, R394, R395: ALPHA3_DEC and ALPHA5_DEC complete from every state and every block, write the A lanes
only, and decode each slot to 17 times its nibble, or to the codebook entry its 3-bit index names. -/
def Obligations.AlphaDecoders : Prop :=
  ∀ (s : State) (a0 a1 : Nat), a0 = (s.blockByte 0).toNat → a1 = (s.blockByte 1).toNat →
    ∃ t u : State,
      exec .alpha3Dec s = .next t ∧ t = { s with texel := t.texel, done := true, busy := false } ∧
      (∀ (j : Fin 8) (lo hi : Fin 16), lo.val = 2 * j.val → hi.val = 2 * j.val + 1 →
        (texelA t.texel[lo]).toNat = 17 * ((s.blockByte ⟨j.val, by omega⟩).toNat % 16) ∧
        (texelA t.texel[hi]).toNat = 17 * ((s.blockByte ⟨j.val, by omega⟩).toNat / 16)) ∧
      exec .alpha5Dec s = .next u ∧ u = { s with texel := u.texel, done := true, busy := false } ∧
      (∀ i : Fin 16, ∀ x : Nat, x = (unpackAlphaIndex (s.blockHalf false) i).val →
        (texelA u.texel[i]).toNat =
          (if x = 0 then a0 else if x = 1 then a1
           else if a0 ≤ a1 then
             (if x = 6 then 0 else if x = 7 then 255 else ((6 - x) * a0 + (x - 1) * a1) / 5)
           else ((8 - x) * a0 + (x - 1) * a1) / 7)) ∧
      ∀ i : Fin 16, texelR t.texel[i] = texelR s.texel[i] ∧ texelG t.texel[i] = texelG s.texel[i] ∧
        texelB t.texel[i] = texelB s.texel[i] ∧ texelR u.texel[i] = texelR s.texel[i] ∧
        texelG u.texel[i] = texelG s.texel[i] ∧ texelB u.texel[i] = texelB s.texel[i]

/-- R380, R381, R383, R384, R386 to R391, R396: ALPHA5_ENC completes from every state and writes block bytes 0..7 and the two
error registers only. The 7-range is the least and the greatest valid alpha, the 5-range the least that is not 0 and the
greatest that is not 255; each error register is the sum over the valid slots of the squared difference to the nearest entry of
the codebook over its fixed range; the bytes 0 and 1 are the fixed 5-range, or the fixed 7-range exchanged if its error is
strictly lower. The encoder agrees with the decoder: the decoded squared error over the valid slots is the smaller of e5 and
e7. That the 5-range is the 7-range where every valid alpha is 0 or 255 is the reading OTHER_RANGE of P_ALPHA_EMPTY5, the
model's choice (log entry 9). -/
def Obligations.Alpha5RoundTrip : Prop :=
  (∀ (a b : Nat) (i : Fin 8),
    (codes5 a b)[i] =
      (if i = 0 then a else if i = 1 then b else if i = 6 then 0 else if i = 7 then 255
       else ((6 - i.val) * a + (i.val - 1) * b) / 5) ∧
    (codes7 a b)[i] =
      (if i = 0 then a else if i = 1 then b else ((8 - i.val) * a + (i.val - 1) * b) / 7)) ∧
  ∀ s : State, ∃ t u : State,
    exec .alpha5Enc s = .next t ∧
    t = { s with block := t.block, aerr5 := t.aerr5, aerr7 := t.aerr7, done := true, busy := false } ∧
    (∀ n : Fin 16, 8 ≤ n.val → t.blockByte n = s.blockByte n) ∧
    (∀ (A : List Nat) (lo5 hi5 lo7 hi7 : Nat) (f5 f7 : Nat × Nat), A = validAlphas s.mask s.texel →
      LeastIn lo7 A → GreatestIn hi7 A →
      ((∃ v ∈ A, v ≠ 0 ∧ v ≠ 255) → LeastIn lo5 (A.filter (· ≠ 0)) ∧ GreatestIn hi5 (A.filter (· ≠ 255))) →
      ((∀ v ∈ A, v = 0 ∨ v = 255) → lo5 = lo7 ∧ hi5 = hi7) →
      f5 = fixRange lo5 hi5 5 → f7 = fixRange lo7 hi7 7 →
      t.aerr5.toNat = (A.map fun v => (nearestCode v (codes5 f5.1 f5.2)).1).sum ∧
      t.aerr7.toNat = (A.map fun v => (nearestCode v (codes7 f7.1 f7.2)).1).sum ∧
      (t.aerr5.toNat ≤ t.aerr7.toNat → (t.blockByte 0).toNat = f5.1 ∧ (t.blockByte 1).toNat = f5.2) ∧
      (t.aerr7.toNat < t.aerr5.toNat → (t.blockByte 0).toNat = f7.2 ∧ (t.blockByte 1).toNat = f7.1)) ∧
    (validAlphas s.mask s.texel = [] →
      t.aerr5 = 0#32 ∧ t.aerr7 = 0#32 ∧
      t.blockHalf false = #v[0x00#8, 0x05#8, 0x00#8, 0x00#8, 0x00#8, 0x00#8, 0x00#8, 0x00#8]) ∧
    (t.aerr5.toNat ≤ t.aerr7.toNat → (t.blockByte 0).toNat < (t.blockByte 1).toNat) ∧
    (t.aerr7.toNat < t.aerr5.toNat → (t.blockByte 1).toNat < (t.blockByte 0).toNat) ∧
    t.aerr5.toNat ≤ 1040400 ∧ t.aerr7.toNat ≤ 1040400 ∧
    exec .alpha5Dec t = .next u ∧
    alphaTileError s.mask s.texel u.texel = min t.aerr5.toNat t.aerr7.toNat

/-- R382: the two values of P_ALPHA_EMPTY5 give every valid slot the same decoded alpha, and give the same block whenever some
valid alpha is neither 0 nor 255, and whenever every valid alpha is 0 (R27, `90_conflicts.md` C8). -/
def Obligations.EmptyAlphaRange : Prop :=
  ∀ (p q : Params) (T : Vector Word 16) (m : BitVec 16), p.alphaEmpty5 = .otherRange → q.alphaEmpty5 = .collapse →
    (∀ i : Fin 16, slotValid m i = true →
      (decodeAlpha5 (encodeAlpha5 p T m).bytes)[i] = (decodeAlpha5 (encodeAlpha5 q T m).bytes)[i]) ∧
    ((∃ i : Fin 16, slotValid m i = true ∧ texelA T[i] ≠ 0#8 ∧ texelA T[i] ≠ 255#8) →
      encodeAlpha5 p T m = encodeAlpha5 q T m) ∧
    ((∀ i : Fin 16, slotValid m i = true → texelA T[i] = 0#8) → encodeAlpha5 p T m = encodeAlpha5 q T m)

/-- R383: `FixRange`, and the span it guarantees. -/
def Obligations.FixRangeSpan : Prop :=
  ∀ lo hi steps : Nat, lo ≤ hi → hi ≤ 255 → 1 ≤ steps → steps ≤ 7 →
    (fixRange lo hi steps).1 < (fixRange lo hi steps).2 ∧ (fixRange lo hi steps).2 ≤ 255 ∧
    (fixRange lo hi steps).1 + steps ≤ (fixRange lo hi steps).2 ∧
    (lo + steps ≤ hi → fixRange lo hi steps = (lo, hi)) ∧
    (hi < lo + steps → lo + steps ≤ 255 → fixRange lo hi steps = (lo, lo + steps)) ∧
    (255 < lo + steps → fixRange lo hi steps = (255 - steps, 255))

/-- R386: the index `FitCodes` gives a valid slot is the first of least squared error. -/
def Obligations.NearestAlphaCode : Prop :=
  ∀ (v : Byte) (codes : Vector Nat 8), (∀ j : Fin 8, codes[j] ≤ 255) →
    (nearestCode v.toNat codes).1 = sqDiff v.toNat codes[(nearestCode v.toNat codes).2] ∧
    (∀ j : Fin 8, (nearestCode v.toNat codes).1 ≤ sqDiff v.toNat codes[j]) ∧
    (∀ j : Fin 8, j < (nearestCode v.toNat codes).2 → (nearestCode v.toNat codes).1 < sqDiff v.toNat codes[j])

/-! ### The numeric datapath -/

/-- R15, R21, R150: addition, subtraction, multiplication, division and `fsqrt` round the exact result once, to nearest even,
with no flush to zero; overflow gives the infinity of the result's sign; invalid operations give a NaN (some NaN: no payload
is stated), a NaN operand gives a NaN, infinite operands and zero divisors follow IEEE 754. -/
def Obligations.FloatOpsRoundToNearest : Prop :=
  (∀ x y : F32, x.isFinite = true → y.isFinite = true →
    NearestEven (x.value + y.value) (x.add y) ∧
    NearestEven (x.value - y.value) (x.sub y) ∧
    (x.value + y.value = 0 → x.add y = F32.signedZero (x.bits.getLsbD 31 && y.bits.getLsbD 31)) ∧
    (x.value - y.value = 0 → x.sub y = F32.signedZero (x.bits.getLsbD 31 && !y.bits.getLsbD 31)) ∧
    NearestEven (x.value * y.value) (x.mul y) ∧
    (x.mul y).bits.getLsbD 31 = (x.bits.getLsbD 31 ^^ y.bits.getLsbD 31) ∧
    (y.isZero = false →
      NearestEven (x.value / y.value) (x.div y) ∧
      (x.div y).bits.getLsbD 31 = (x.bits.getLsbD 31 ^^ y.bits.getLsbD 31)) ∧
    (y.isZero = true → x.isZero = false → x.div y = F32.inf (x.bits.getLsbD 31 ^^ y.bits.getLsbD 31)) ∧
    (y.isZero = true → x.isZero = true → (x.div y).isNaN = true) ∧
    (∀ a b : Bool,
      (F32.inf a).add x = F32.inf a ∧ x.add (F32.inf a) = F32.inf a ∧ x.sub (F32.inf a) = F32.inf (!a) ∧
      (F32.inf a).sub x = F32.inf a ∧
      (a = b → (F32.inf a).add (F32.inf b) = F32.inf a ∧ ((F32.inf a).sub (F32.inf b)).isNaN = true) ∧
      (a ≠ b → ((F32.inf a).add (F32.inf b)).isNaN = true ∧ (F32.inf a).sub (F32.inf b) = F32.inf a) ∧
      (x.isZero = false →
        (F32.inf a).mul x = F32.inf (a ^^ x.bits.getLsbD 31) ∧ x.mul (F32.inf a) = F32.inf (a ^^ x.bits.getLsbD 31)) ∧
      (x.isZero = true → ((F32.inf a).mul x).isNaN = true ∧ (x.mul (F32.inf a)).isNaN = true) ∧
      (F32.inf a).mul (F32.inf b) = F32.inf (a ^^ b) ∧ ((F32.inf a).div (F32.inf b)).isNaN = true ∧
      (F32.inf a).div x = F32.inf (a ^^ x.bits.getLsbD 31) ∧
      x.div (F32.inf a) = F32.signedZero (a ^^ x.bits.getLsbD 31))) ∧
  (∀ x y : F32, x.isNaN = true ∨ y.isNaN = true →
    (x.add y).isNaN = true ∧ (x.sub y).isNaN = true ∧ (x.mul y).isNaN = true ∧ (x.div y).isNaN = true) ∧
  (∀ x : F32, x.isFinite = true →
    (0 ≤ x.value → NearestRoot x.value x.sqrt) ∧ (x.value < 0 → x.sqrt.isNaN = true)) ∧
  (F32.inf false).sqrt = F32.inf false ∧ (F32.inf true).sqrt.isNaN = true ∧
  ∀ x : F32, x.isNaN = true → x.sqrt.isNaN = true

/-- R151, R153: integers up to 2^24 convert exactly, and truncation keeps them. -/
def Obligations.SmallIntegersExact : Prop :=
  ∀ n : Nat, n ≤ 2 ^ 24 →
    (F32.ofNat n).toInt? = some (n : Int) ∧ (F32.ofNat n).value = (n : ℚ) ∧ (F32.ofNat n).trunc = F32.ofNat n

/-- R152, R154, R157: `Min` and `Max` are the select forms of the IEEE ordered comparison, which is false on a NaN; the clamp
to [0, 1] maps a NaN and −∞ to 0 and +∞ to 1, keeps what lies between, and always gives a value between; all are applied
lane-wise to vectors. -/
def Obligations.ClampToUnit : Prop :=
  (∀ u v : F32, u.min v = (if v.lt u then v else u) ∧ u.max v = (if u.lt v then v else u)) ∧
  (∀ x : F32,
    (0x7F800000 < x.bits.toNat % 0x80000000 → x.clamp01 = ⟨0x00000000#32⟩) ∧
    (x.bits = 0xFF800000#32 → x.clamp01 = ⟨0x00000000#32⟩) ∧
    (x.bits = 0x7F800000#32 → x.clamp01 = ⟨0x3F800000#32⟩) ∧
    (0 < x.bits.toNat → x.bits.toNat ≤ 0x3F800000 → x.clamp01 = x) ∧
    x.clamp01 = F32.one.min (F32.max F32.zero x) ∧ x.clamp01.bits.toNat ≤ 0x3F800000) ∧
  -- `<` is the IEEE ordered comparison
  (∀ x y : F32, 0x7F800000 < x.bits.toNat % 0x80000000 ∨ 0x7F800000 < y.bits.toNat % 0x80000000 → x.lt y = false) ∧
  (∀ x y : F32, x.isFinite = true → y.isFinite = true → (x.lt y = true ↔ x.value < y.value)) ∧
  (∀ x : F32, x.isFinite = true →
    x.lt ⟨0x7F800000#32⟩ = true ∧ F32.lt ⟨0xFF800000#32⟩ x = true ∧ F32.lt ⟨0x7F800000#32⟩ x = false ∧
    x.lt ⟨0xFF800000#32⟩ = false) ∧
  F32.lt ⟨0xFF800000#32⟩ ⟨0x7F800000#32⟩ = true ∧ F32.lt ⟨0x7F800000#32⟩ ⟨0xFF800000#32⟩ = false ∧
  (∀ x : F32, x.lt x = false) ∧
  -- lane by lane on vectors
  (∀ v : Vec3, v.clamp01 = ⟨v.x.clamp01, v.y.clamp01, v.z.clamp01⟩) ∧
  (∀ u v : Vec3, u.min v = ⟨u.x.min v.x, u.y.min v.y, u.z.min v.z⟩ ∧
    u.max v = ⟨u.x.max v.x, u.y.max v.y, u.z.max v.z⟩) ∧
  (∀ u v : Vec4, u.min v = ⟨u.x.min v.x, u.y.min v.y, u.z.min v.z, u.w.min v.w⟩ ∧
    u.max v = ⟨u.x.max v.x, u.y.max v.y, u.z.max v.z, u.w.max v.w⟩)
end

