-- ==== Sys2Proof/Laws/State.lean ====
section
/-! SUPPORT. One lemma per field per state update: what each named update of the state leaves in each field. -/

namespace Sys2Proof.Machine

/-! ### `Error(c)` (R452) -/

@[simp] theorem State.raise_cfg (c : ErrorCode) (s : State) : (s.raise c).cfg = s.cfg := rfl
@[simp] theorem State.raise_mask (c : ErrorCode) (s : State) : (s.raise c).mask = s.mask := rfl
@[simp] theorem State.raise_done (c : ErrorCode) (s : State) : (s.raise c).done = s.done := rfl
@[simp] theorem State.raise_err (c : ErrorCode) (s : State) : (s.raise c).err = true := rfl
@[simp] theorem State.raise_ecode (c : ErrorCode) (s : State) :
    (s.raise c).ecode = if s.err then s.ecode else errorCode c := rfl
@[simp] theorem State.raise_lastop (c : ErrorCode) (s : State) : (s.raise c).lastop = s.lastop := rfl
@[simp] theorem State.raise_busy (c : ErrorCode) (s : State) : (s.raise c).busy = s.busy := rfl
@[simp] theorem State.raise_pending (c : ErrorCode) (s : State) : (s.raise c).pending = s.pending := rfl
@[simp] theorem State.raise_texel (c : ErrorCode) (s : State) : (s.raise c).texel = s.texel := rfl
@[simp] theorem State.raise_block (c : ErrorCode) (s : State) : (s.raise c).block = s.block := rfl
@[simp] theorem State.raise_ps (c : ErrorCode) (s : State) : (s.raise c).ps = s.ps := rfl
@[simp] theorem State.raise_fit (c : ErrorCode) (s : State) : (s.raise c).fit = s.fit := rfl
@[simp] theorem State.raise_besterr (c : ErrorCode) (s : State) : (s.raise c).besterr = s.besterr := rfl
@[simp] theorem State.raise_besterrI (c : ErrorCode) (s : State) : (s.raise c).besterrI = s.besterrI := rfl
@[simp] theorem State.raise_aerr5 (c : ErrorCode) (s : State) : (s.raise c).aerr5 = s.aerr5 := rfl
@[simp] theorem State.raise_aerr7 (c : ErrorCode) (s : State) : (s.raise c).aerr7 = s.aerr7 := rfl
@[simp] theorem State.raise_iters (c : ErrorCode) (s : State) : (s.raise c).iters = s.iters := rfl
@[simp] theorem State.raise_bestIter (c : ErrorCode) (s : State) : (s.raise c).bestIter = s.bestIter := rfl
@[simp] theorem State.raise_order (c : ErrorCode) (s : State) : (s.raise c).order = s.order := rfl
@[simp] theorem State.raise_events (c : ErrorCode) (s : State) : (s.raise c).events = s.events := rfl
@[simp] theorem State.raise_oracle (c : ErrorCode) (s : State) : (s.raise c).oracle = s.oracle := rfl
@[simp] theorem State.raise_rdata (c : ErrorCode) (s : State) : (s.raise c).rdata = s.rdata := rfl

/-! ### a write to STATUS (R40) -/

@[simp] theorem State.writeStatus_cfg (v : Word) (s : State) : (s.writeStatus v).cfg = s.cfg := rfl
@[simp] theorem State.writeStatus_mask (v : Word) (s : State) : (s.writeStatus v).mask = s.mask := rfl
@[simp] theorem State.writeStatus_done (v : Word) (s : State) :
    (s.writeStatus v).done = (s.done && !v.getLsbD 1) := rfl
@[simp] theorem State.writeStatus_err (v : Word) (s : State) : (s.writeStatus v).err = (s.err && !v.getLsbD 2) := rfl
@[simp] theorem State.writeStatus_ecode (v : Word) (s : State) :
    (s.writeStatus v).ecode = if v.getLsbD 2 then 0#4 else s.ecode := rfl
@[simp] theorem State.writeStatus_lastop (v : Word) (s : State) : (s.writeStatus v).lastop = s.lastop := rfl
@[simp] theorem State.writeStatus_busy (v : Word) (s : State) : (s.writeStatus v).busy = s.busy := rfl
@[simp] theorem State.writeStatus_pending (v : Word) (s : State) : (s.writeStatus v).pending = s.pending := rfl
@[simp] theorem State.writeStatus_texel (v : Word) (s : State) : (s.writeStatus v).texel = s.texel := rfl
@[simp] theorem State.writeStatus_block (v : Word) (s : State) : (s.writeStatus v).block = s.block := rfl
@[simp] theorem State.writeStatus_ps (v : Word) (s : State) : (s.writeStatus v).ps = s.ps := rfl
@[simp] theorem State.writeStatus_fit (v : Word) (s : State) : (s.writeStatus v).fit = s.fit := rfl
@[simp] theorem State.writeStatus_besterr (v : Word) (s : State) : (s.writeStatus v).besterr = s.besterr := rfl
@[simp] theorem State.writeStatus_besterrI (v : Word) (s : State) : (s.writeStatus v).besterrI = s.besterrI := rfl
@[simp] theorem State.writeStatus_aerr5 (v : Word) (s : State) : (s.writeStatus v).aerr5 = s.aerr5 := rfl
@[simp] theorem State.writeStatus_aerr7 (v : Word) (s : State) : (s.writeStatus v).aerr7 = s.aerr7 := rfl
@[simp] theorem State.writeStatus_iters (v : Word) (s : State) : (s.writeStatus v).iters = s.iters := rfl
@[simp] theorem State.writeStatus_bestIter (v : Word) (s : State) : (s.writeStatus v).bestIter = s.bestIter := rfl
@[simp] theorem State.writeStatus_order (v : Word) (s : State) : (s.writeStatus v).order = s.order := rfl
@[simp] theorem State.writeStatus_events (v : Word) (s : State) : (s.writeStatus v).events = s.events := rfl
@[simp] theorem State.writeStatus_oracle (v : Word) (s : State) : (s.writeStatus v).oracle = s.oracle := rfl
@[simp] theorem State.writeStatus_rdata (v : Word) (s : State) : (s.writeStatus v).rdata = s.rdata := rfl

/-! ### the acceptance of a command (R450) -/

@[simp] theorem State.accept_cfg (op : Byte) (s : State) : (s.accept op).cfg = s.cfg := rfl
@[simp] theorem State.accept_mask (op : Byte) (s : State) : (s.accept op).mask = s.mask := rfl
@[simp] theorem State.accept_done (op : Byte) (s : State) : (s.accept op).done = false := rfl
@[simp] theorem State.accept_err (op : Byte) (s : State) : (s.accept op).err = s.err := rfl
@[simp] theorem State.accept_ecode (op : Byte) (s : State) : (s.accept op).ecode = s.ecode := rfl
@[simp] theorem State.accept_lastop (op : Byte) (s : State) : (s.accept op).lastop = op := rfl
@[simp] theorem State.accept_busy (op : Byte) (s : State) : (s.accept op).busy = true := rfl
@[simp] theorem State.accept_pending (op : Byte) (s : State) : (s.accept op).pending = op := rfl
@[simp] theorem State.accept_texel (op : Byte) (s : State) : (s.accept op).texel = s.texel := rfl
@[simp] theorem State.accept_block (op : Byte) (s : State) : (s.accept op).block = s.block := rfl
@[simp] theorem State.accept_ps (op : Byte) (s : State) : (s.accept op).ps = s.ps := rfl
@[simp] theorem State.accept_fit (op : Byte) (s : State) : (s.accept op).fit = s.fit := rfl
@[simp] theorem State.accept_besterr (op : Byte) (s : State) : (s.accept op).besterr = s.besterr := rfl
@[simp] theorem State.accept_besterrI (op : Byte) (s : State) : (s.accept op).besterrI = s.besterrI := rfl
@[simp] theorem State.accept_aerr5 (op : Byte) (s : State) : (s.accept op).aerr5 = s.aerr5 := rfl
@[simp] theorem State.accept_aerr7 (op : Byte) (s : State) : (s.accept op).aerr7 = s.aerr7 := rfl
@[simp] theorem State.accept_iters (op : Byte) (s : State) : (s.accept op).iters = s.iters := rfl
@[simp] theorem State.accept_bestIter (op : Byte) (s : State) : (s.accept op).bestIter = s.bestIter := rfl
@[simp] theorem State.accept_order (op : Byte) (s : State) : (s.accept op).order = s.order := rfl
@[simp] theorem State.accept_events (op : Byte) (s : State) : (s.accept op).events = s.events := rfl
@[simp] theorem State.accept_oracle (op : Byte) (s : State) : (s.accept op).oracle = s.oracle := rfl
@[simp] theorem State.accept_rdata (op : Byte) (s : State) : (s.accept op).rdata = s.rdata := rfl

/-! ### the end of a completed step (R454) -/

@[simp] theorem State.complete_cfg (s : State) : (s.complete).cfg = s.cfg := rfl
@[simp] theorem State.complete_mask (s : State) : (s.complete).mask = s.mask := rfl
@[simp] theorem State.complete_done (s : State) : (s.complete).done = true := rfl
@[simp] theorem State.complete_err (s : State) : (s.complete).err = s.err := rfl
@[simp] theorem State.complete_ecode (s : State) : (s.complete).ecode = s.ecode := rfl
@[simp] theorem State.complete_lastop (s : State) : (s.complete).lastop = s.lastop := rfl
@[simp] theorem State.complete_busy (s : State) : (s.complete).busy = false := rfl
@[simp] theorem State.complete_pending (s : State) : (s.complete).pending = s.pending := rfl
@[simp] theorem State.complete_texel (s : State) : (s.complete).texel = s.texel := rfl
@[simp] theorem State.complete_block (s : State) : (s.complete).block = s.block := rfl
@[simp] theorem State.complete_ps (s : State) : (s.complete).ps = s.ps := rfl
@[simp] theorem State.complete_fit (s : State) : (s.complete).fit = s.fit := rfl
@[simp] theorem State.complete_besterr (s : State) : (s.complete).besterr = s.besterr := rfl
@[simp] theorem State.complete_besterrI (s : State) : (s.complete).besterrI = s.besterrI := rfl
@[simp] theorem State.complete_aerr5 (s : State) : (s.complete).aerr5 = s.aerr5 := rfl
@[simp] theorem State.complete_aerr7 (s : State) : (s.complete).aerr7 = s.aerr7 := rfl
@[simp] theorem State.complete_iters (s : State) : (s.complete).iters = s.iters := rfl
@[simp] theorem State.complete_bestIter (s : State) : (s.complete).bestIter = s.bestIter := rfl
@[simp] theorem State.complete_order (s : State) : (s.complete).order = s.order := rfl
@[simp] theorem State.complete_events (s : State) : (s.complete).events = s.events := rfl
@[simp] theorem State.complete_oracle (s : State) : (s.complete).oracle = s.oracle := rfl
@[simp] theorem State.complete_rdata (s : State) : (s.complete).rdata = s.rdata := rfl

/-! ### the end of a step that raised an error (R452) -/

@[simp] theorem State.abort_cfg (c : ErrorCode) (s : State) : (s.abort c).cfg = s.cfg := rfl
@[simp] theorem State.abort_mask (c : ErrorCode) (s : State) : (s.abort c).mask = s.mask := rfl
@[simp] theorem State.abort_done (c : ErrorCode) (s : State) : (s.abort c).done = s.done := rfl
@[simp] theorem State.abort_err (c : ErrorCode) (s : State) : (s.abort c).err = true := rfl
@[simp] theorem State.abort_ecode (c : ErrorCode) (s : State) :
    (s.abort c).ecode = if s.err then s.ecode else errorCode c := rfl
@[simp] theorem State.abort_lastop (c : ErrorCode) (s : State) : (s.abort c).lastop = s.lastop := rfl
@[simp] theorem State.abort_busy (c : ErrorCode) (s : State) : (s.abort c).busy = false := rfl
@[simp] theorem State.abort_pending (c : ErrorCode) (s : State) : (s.abort c).pending = s.pending := rfl
@[simp] theorem State.abort_texel (c : ErrorCode) (s : State) : (s.abort c).texel = s.texel := rfl
@[simp] theorem State.abort_block (c : ErrorCode) (s : State) : (s.abort c).block = s.block := rfl
@[simp] theorem State.abort_ps (c : ErrorCode) (s : State) : (s.abort c).ps = s.ps := rfl
@[simp] theorem State.abort_fit (c : ErrorCode) (s : State) : (s.abort c).fit = s.fit := rfl
@[simp] theorem State.abort_besterr (c : ErrorCode) (s : State) : (s.abort c).besterr = s.besterr := rfl
@[simp] theorem State.abort_besterrI (c : ErrorCode) (s : State) : (s.abort c).besterrI = s.besterrI := rfl
@[simp] theorem State.abort_aerr5 (c : ErrorCode) (s : State) : (s.abort c).aerr5 = s.aerr5 := rfl
@[simp] theorem State.abort_aerr7 (c : ErrorCode) (s : State) : (s.abort c).aerr7 = s.aerr7 := rfl
@[simp] theorem State.abort_iters (c : ErrorCode) (s : State) : (s.abort c).iters = s.iters := rfl
@[simp] theorem State.abort_bestIter (c : ErrorCode) (s : State) : (s.abort c).bestIter = s.bestIter := rfl
@[simp] theorem State.abort_order (c : ErrorCode) (s : State) : (s.abort c).order = s.order := rfl
@[simp] theorem State.abort_events (c : ErrorCode) (s : State) : (s.abort c).events = s.events := rfl
@[simp] theorem State.abort_oracle (c : ErrorCode) (s : State) : (s.abort c).oracle = s.oracle := rfl
@[simp] theorem State.abort_rdata (c : ErrorCode) (s : State) : (s.abort c).rdata = s.rdata := rfl

/-! ### a write of all texel lanes (R345) -/

@[simp] theorem State.writeTexels_cfg (out : Vector Rgba 16) (s : State) : (s.writeTexels out).cfg = s.cfg := rfl
@[simp] theorem State.writeTexels_mask (out : Vector Rgba 16) (s : State) : (s.writeTexels out).mask = s.mask := rfl
@[simp] theorem State.writeTexels_done (out : Vector Rgba 16) (s : State) : (s.writeTexels out).done = s.done := rfl
@[simp] theorem State.writeTexels_err (out : Vector Rgba 16) (s : State) : (s.writeTexels out).err = s.err := rfl
@[simp] theorem State.writeTexels_ecode (out : Vector Rgba 16) (s : State) :
    (s.writeTexels out).ecode = s.ecode := rfl
@[simp] theorem State.writeTexels_lastop (out : Vector Rgba 16) (s : State) :
    (s.writeTexels out).lastop = s.lastop := rfl
@[simp] theorem State.writeTexels_busy (out : Vector Rgba 16) (s : State) : (s.writeTexels out).busy = s.busy := rfl
@[simp] theorem State.writeTexels_pending (out : Vector Rgba 16) (s : State) :
    (s.writeTexels out).pending = s.pending := rfl
@[simp] theorem State.writeTexels_texel (out : Vector Rgba 16) (s : State) :
    (s.writeTexels out).texel = Vector.ofFn fun i => texelOf (out[i]) := rfl
@[simp] theorem State.writeTexels_block (out : Vector Rgba 16) (s : State) :
    (s.writeTexels out).block = s.block := rfl
@[simp] theorem State.writeTexels_ps (out : Vector Rgba 16) (s : State) : (s.writeTexels out).ps = s.ps := rfl
@[simp] theorem State.writeTexels_fit (out : Vector Rgba 16) (s : State) : (s.writeTexels out).fit = s.fit := rfl
@[simp] theorem State.writeTexels_besterr (out : Vector Rgba 16) (s : State) :
    (s.writeTexels out).besterr = s.besterr := rfl
@[simp] theorem State.writeTexels_besterrI (out : Vector Rgba 16) (s : State) :
    (s.writeTexels out).besterrI = s.besterrI := rfl
@[simp] theorem State.writeTexels_aerr5 (out : Vector Rgba 16) (s : State) :
    (s.writeTexels out).aerr5 = s.aerr5 := rfl
@[simp] theorem State.writeTexels_aerr7 (out : Vector Rgba 16) (s : State) :
    (s.writeTexels out).aerr7 = s.aerr7 := rfl
@[simp] theorem State.writeTexels_iters (out : Vector Rgba 16) (s : State) :
    (s.writeTexels out).iters = s.iters := rfl
@[simp] theorem State.writeTexels_bestIter (out : Vector Rgba 16) (s : State) :
    (s.writeTexels out).bestIter = s.bestIter := rfl
@[simp] theorem State.writeTexels_order (out : Vector Rgba 16) (s : State) :
    (s.writeTexels out).order = s.order := rfl
@[simp] theorem State.writeTexels_events (out : Vector Rgba 16) (s : State) :
    (s.writeTexels out).events = s.events := rfl
@[simp] theorem State.writeTexels_oracle (out : Vector Rgba 16) (s : State) :
    (s.writeTexels out).oracle = s.oracle := rfl
@[simp] theorem State.writeTexels_rdata (out : Vector Rgba 16) (s : State) :
    (s.writeTexels out).rdata = s.rdata := rfl

/-! ### a write of the A lanes (R72) -/

@[simp] theorem State.writeAlphas_cfg (a : Vector Byte 16) (s : State) : (s.writeAlphas a).cfg = s.cfg := rfl
@[simp] theorem State.writeAlphas_mask (a : Vector Byte 16) (s : State) : (s.writeAlphas a).mask = s.mask := rfl
@[simp] theorem State.writeAlphas_done (a : Vector Byte 16) (s : State) : (s.writeAlphas a).done = s.done := rfl
@[simp] theorem State.writeAlphas_err (a : Vector Byte 16) (s : State) : (s.writeAlphas a).err = s.err := rfl
@[simp] theorem State.writeAlphas_ecode (a : Vector Byte 16) (s : State) : (s.writeAlphas a).ecode = s.ecode := rfl
@[simp] theorem State.writeAlphas_lastop (a : Vector Byte 16) (s : State) : (s.writeAlphas a).lastop = s.lastop := rfl
@[simp] theorem State.writeAlphas_busy (a : Vector Byte 16) (s : State) : (s.writeAlphas a).busy = s.busy := rfl
@[simp] theorem State.writeAlphas_pending (a : Vector Byte 16) (s : State) :
    (s.writeAlphas a).pending = s.pending := rfl
@[simp] theorem State.writeAlphas_texel (a : Vector Byte 16) (s : State) :
    (s.writeAlphas a).texel = Vector.ofFn fun i => withAlpha (s.texel[i]) (a[i]) := rfl
@[simp] theorem State.writeAlphas_block (a : Vector Byte 16) (s : State) : (s.writeAlphas a).block = s.block := rfl
@[simp] theorem State.writeAlphas_ps (a : Vector Byte 16) (s : State) : (s.writeAlphas a).ps = s.ps := rfl
@[simp] theorem State.writeAlphas_fit (a : Vector Byte 16) (s : State) : (s.writeAlphas a).fit = s.fit := rfl
@[simp] theorem State.writeAlphas_besterr (a : Vector Byte 16) (s : State) :
    (s.writeAlphas a).besterr = s.besterr := rfl
@[simp] theorem State.writeAlphas_besterrI (a : Vector Byte 16) (s : State) :
    (s.writeAlphas a).besterrI = s.besterrI := rfl
@[simp] theorem State.writeAlphas_aerr5 (a : Vector Byte 16) (s : State) : (s.writeAlphas a).aerr5 = s.aerr5 := rfl
@[simp] theorem State.writeAlphas_aerr7 (a : Vector Byte 16) (s : State) : (s.writeAlphas a).aerr7 = s.aerr7 := rfl
@[simp] theorem State.writeAlphas_iters (a : Vector Byte 16) (s : State) : (s.writeAlphas a).iters = s.iters := rfl
@[simp] theorem State.writeAlphas_bestIter (a : Vector Byte 16) (s : State) :
    (s.writeAlphas a).bestIter = s.bestIter := rfl
@[simp] theorem State.writeAlphas_order (a : Vector Byte 16) (s : State) : (s.writeAlphas a).order = s.order := rfl
@[simp] theorem State.writeAlphas_events (a : Vector Byte 16) (s : State) : (s.writeAlphas a).events = s.events := rfl
@[simp] theorem State.writeAlphas_oracle (a : Vector Byte 16) (s : State) : (s.writeAlphas a).oracle = s.oracle := rfl
@[simp] theorem State.writeAlphas_rdata (a : Vector Byte 16) (s : State) : (s.writeAlphas a).rdata = s.rdata := rfl

/-! ### a write of one half of the block buffer (R233); its bytes are `blockByte_writeBlockHalf` of `Laws/Ops.lean` -/

@[simp] theorem State.writeBlockHalf_cfg (high : Bool) (b : Vector Byte 8) (s : State) :
    (s.writeBlockHalf high b).cfg = s.cfg := rfl
@[simp] theorem State.writeBlockHalf_mask (high : Bool) (b : Vector Byte 8) (s : State) :
    (s.writeBlockHalf high b).mask = s.mask := rfl
@[simp] theorem State.writeBlockHalf_done (high : Bool) (b : Vector Byte 8) (s : State) :
    (s.writeBlockHalf high b).done = s.done := rfl
@[simp] theorem State.writeBlockHalf_err (high : Bool) (b : Vector Byte 8) (s : State) :
    (s.writeBlockHalf high b).err = s.err := rfl
@[simp] theorem State.writeBlockHalf_ecode (high : Bool) (b : Vector Byte 8) (s : State) :
    (s.writeBlockHalf high b).ecode = s.ecode := rfl
@[simp] theorem State.writeBlockHalf_lastop (high : Bool) (b : Vector Byte 8) (s : State) :
    (s.writeBlockHalf high b).lastop = s.lastop := rfl
@[simp] theorem State.writeBlockHalf_busy (high : Bool) (b : Vector Byte 8) (s : State) :
    (s.writeBlockHalf high b).busy = s.busy := rfl
@[simp] theorem State.writeBlockHalf_pending (high : Bool) (b : Vector Byte 8) (s : State) :
    (s.writeBlockHalf high b).pending = s.pending := rfl
@[simp] theorem State.writeBlockHalf_texel (high : Bool) (b : Vector Byte 8) (s : State) :
    (s.writeBlockHalf high b).texel = s.texel := rfl
@[simp] theorem State.writeBlockHalf_ps (high : Bool) (b : Vector Byte 8) (s : State) :
    (s.writeBlockHalf high b).ps = s.ps := rfl
@[simp] theorem State.writeBlockHalf_fit (high : Bool) (b : Vector Byte 8) (s : State) :
    (s.writeBlockHalf high b).fit = s.fit := rfl
@[simp] theorem State.writeBlockHalf_besterr (high : Bool) (b : Vector Byte 8) (s : State) :
    (s.writeBlockHalf high b).besterr = s.besterr := rfl
@[simp] theorem State.writeBlockHalf_besterrI (high : Bool) (b : Vector Byte 8) (s : State) :
    (s.writeBlockHalf high b).besterrI = s.besterrI := rfl
@[simp] theorem State.writeBlockHalf_aerr5 (high : Bool) (b : Vector Byte 8) (s : State) :
    (s.writeBlockHalf high b).aerr5 = s.aerr5 := rfl
@[simp] theorem State.writeBlockHalf_aerr7 (high : Bool) (b : Vector Byte 8) (s : State) :
    (s.writeBlockHalf high b).aerr7 = s.aerr7 := rfl
@[simp] theorem State.writeBlockHalf_iters (high : Bool) (b : Vector Byte 8) (s : State) :
    (s.writeBlockHalf high b).iters = s.iters := rfl
@[simp] theorem State.writeBlockHalf_bestIter (high : Bool) (b : Vector Byte 8) (s : State) :
    (s.writeBlockHalf high b).bestIter = s.bestIter := rfl
@[simp] theorem State.writeBlockHalf_order (high : Bool) (b : Vector Byte 8) (s : State) :
    (s.writeBlockHalf high b).order = s.order := rfl
@[simp] theorem State.writeBlockHalf_events (high : Bool) (b : Vector Byte 8) (s : State) :
    (s.writeBlockHalf high b).events = s.events := rfl
@[simp] theorem State.writeBlockHalf_oracle (high : Bool) (b : Vector Byte 8) (s : State) :
    (s.writeBlockHalf high b).oracle = s.oracle := rfl
@[simp] theorem State.writeBlockHalf_rdata (high : Bool) (b : Vector Byte 8) (s : State) :
    (s.writeBlockHalf high b).rdata = s.rdata := rfl

/-! ### the point-set builder (R195) -/

@[simp] theorem State.withPointSet_cfg (m : BitVec 16) (s : State) : (s.withPointSet m).cfg = s.cfg := rfl
@[simp] theorem State.withPointSet_mask (m : BitVec 16) (s : State) : (s.withPointSet m).mask = s.mask := rfl
@[simp] theorem State.withPointSet_done (m : BitVec 16) (s : State) : (s.withPointSet m).done = s.done := rfl
@[simp] theorem State.withPointSet_err (m : BitVec 16) (s : State) : (s.withPointSet m).err = s.err := rfl
@[simp] theorem State.withPointSet_ecode (m : BitVec 16) (s : State) : (s.withPointSet m).ecode = s.ecode := rfl
@[simp] theorem State.withPointSet_lastop (m : BitVec 16) (s : State) : (s.withPointSet m).lastop = s.lastop := rfl
@[simp] theorem State.withPointSet_busy (m : BitVec 16) (s : State) : (s.withPointSet m).busy = s.busy := rfl
@[simp] theorem State.withPointSet_pending (m : BitVec 16) (s : State) : (s.withPointSet m).pending = s.pending := rfl
@[simp] theorem State.withPointSet_texel (m : BitVec 16) (s : State) : (s.withPointSet m).texel = s.texel := rfl
@[simp] theorem State.withPointSet_block (m : BitVec 16) (s : State) : (s.withPointSet m).block = s.block := rfl
@[simp] theorem State.withPointSet_ps (m : BitVec 16) (s : State) :
    (s.withPointSet m).ps = buildPointSet s.texel m (normalise s.cfg) := rfl
@[simp] theorem State.withPointSet_fit (m : BitVec 16) (s : State) : (s.withPointSet m).fit = s.fit := rfl
@[simp] theorem State.withPointSet_besterr (m : BitVec 16) (s : State) : (s.withPointSet m).besterr = s.besterr := rfl
@[simp] theorem State.withPointSet_besterrI (m : BitVec 16) (s : State) :
    (s.withPointSet m).besterrI = s.besterrI := rfl
@[simp] theorem State.withPointSet_aerr5 (m : BitVec 16) (s : State) : (s.withPointSet m).aerr5 = s.aerr5 := rfl
@[simp] theorem State.withPointSet_aerr7 (m : BitVec 16) (s : State) : (s.withPointSet m).aerr7 = s.aerr7 := rfl
@[simp] theorem State.withPointSet_iters (m : BitVec 16) (s : State) : (s.withPointSet m).iters = s.iters := rfl
@[simp] theorem State.withPointSet_bestIter (m : BitVec 16) (s : State) :
    (s.withPointSet m).bestIter = s.bestIter := rfl
@[simp] theorem State.withPointSet_order (m : BitVec 16) (s : State) : (s.withPointSet m).order = s.order := rfl
@[simp] theorem State.withPointSet_events (m : BitVec 16) (s : State) : (s.withPointSet m).events = s.events := rfl
@[simp] theorem State.withPointSet_oracle (m : BitVec 16) (s : State) : (s.withPointSet m).oracle = s.oracle := rfl
@[simp] theorem State.withPointSet_rdata (m : BitVec 16) (s : State) : (s.withPointSet m).rdata = s.rdata := rfl

/-! ### the opening of a fit command (R235) -/

@[simp] theorem State.beginFit_cfg (kind : FitKind) (s : State) : (s.beginFit kind).cfg = s.cfg := rfl
@[simp] theorem State.beginFit_mask (kind : FitKind) (s : State) : (s.beginFit kind).mask = s.mask := rfl
@[simp] theorem State.beginFit_done (kind : FitKind) (s : State) : (s.beginFit kind).done = s.done := rfl
@[simp] theorem State.beginFit_err (kind : FitKind) (s : State) : (s.beginFit kind).err = s.err := rfl
@[simp] theorem State.beginFit_ecode (kind : FitKind) (s : State) : (s.beginFit kind).ecode = s.ecode := rfl
@[simp] theorem State.beginFit_lastop (kind : FitKind) (s : State) : (s.beginFit kind).lastop = s.lastop := rfl
@[simp] theorem State.beginFit_busy (kind : FitKind) (s : State) : (s.beginFit kind).busy = s.busy := rfl
@[simp] theorem State.beginFit_pending (kind : FitKind) (s : State) : (s.beginFit kind).pending = s.pending := rfl
@[simp] theorem State.beginFit_texel (kind : FitKind) (s : State) : (s.beginFit kind).texel = s.texel := rfl
@[simp] theorem State.beginFit_block (kind : FitKind) (s : State) : (s.beginFit kind).block = s.block := rfl
@[simp] theorem State.beginFit_ps (kind : FitKind) (s : State) : (s.beginFit kind).ps = s.ps := rfl
@[simp] theorem State.beginFit_fit (kind : FitKind) (s : State) :
    (s.beginFit kind).fit = { s.fit with kind := kind, valid := false } := rfl
@[simp] theorem State.beginFit_besterr (kind : FitKind) (s : State) : (s.beginFit kind).besterr = s.besterr := rfl
@[simp] theorem State.beginFit_besterrI (kind : FitKind) (s : State) : (s.beginFit kind).besterrI = s.besterrI := rfl
@[simp] theorem State.beginFit_aerr5 (kind : FitKind) (s : State) : (s.beginFit kind).aerr5 = s.aerr5 := rfl
@[simp] theorem State.beginFit_aerr7 (kind : FitKind) (s : State) : (s.beginFit kind).aerr7 = s.aerr7 := rfl
@[simp] theorem State.beginFit_iters (kind : FitKind) (s : State) : (s.beginFit kind).iters = s.iters := rfl
@[simp] theorem State.beginFit_bestIter (kind : FitKind) (s : State) : (s.beginFit kind).bestIter = s.bestIter := rfl
@[simp] theorem State.beginFit_order (kind : FitKind) (s : State) : (s.beginFit kind).order = s.order := rfl
@[simp] theorem State.beginFit_events (kind : FitKind) (s : State) : (s.beginFit kind).events = s.events := rfl
@[simp] theorem State.beginFit_oracle (kind : FitKind) (s : State) : (s.beginFit kind).oracle = s.oracle := rfl
@[simp] theorem State.beginFit_rdata (kind : FitKind) (s : State) : (s.beginFit kind).rdata = s.rdata := rfl

/-! ### the candidate write (R233) -/

@[simp] theorem State.writeCandidate_cfg (mode4 : Bool) (start stop : Vec3) (idx : Vector (BitVec 2) 16) (s : State) :
    (s.writeCandidate mode4 start stop idx).cfg = s.cfg := rfl
@[simp] theorem State.writeCandidate_mask (mode4 : Bool) (start stop : Vec3) (idx : Vector (BitVec 2) 16) (s : State) :
    (s.writeCandidate mode4 start stop idx).mask = s.mask := rfl
@[simp] theorem State.writeCandidate_done (mode4 : Bool) (start stop : Vec3) (idx : Vector (BitVec 2) 16) (s : State) :
    (s.writeCandidate mode4 start stop idx).done = s.done := rfl
@[simp] theorem State.writeCandidate_err (mode4 : Bool) (start stop : Vec3) (idx : Vector (BitVec 2) 16) (s : State) :
    (s.writeCandidate mode4 start stop idx).err = s.err := rfl
@[simp] theorem State.writeCandidate_ecode (mode4 : Bool) (start stop : Vec3) (idx : Vector (BitVec 2) 16) (s : State) :
    (s.writeCandidate mode4 start stop idx).ecode = s.ecode := rfl
@[simp] theorem State.writeCandidate_lastop (mode4 : Bool) (start stop : Vec3) (idx : Vector (BitVec 2) 16) (s : State) :
    (s.writeCandidate mode4 start stop idx).lastop = s.lastop := rfl
@[simp] theorem State.writeCandidate_busy (mode4 : Bool) (start stop : Vec3) (idx : Vector (BitVec 2) 16) (s : State) :
    (s.writeCandidate mode4 start stop idx).busy = s.busy := rfl
@[simp] theorem State.writeCandidate_pending (mode4 : Bool) (start stop : Vec3) (idx : Vector (BitVec 2) 16) (s : State) :
    (s.writeCandidate mode4 start stop idx).pending = s.pending := rfl
@[simp] theorem State.writeCandidate_texel (mode4 : Bool) (start stop : Vec3) (idx : Vector (BitVec 2) 16) (s : State) :
    (s.writeCandidate mode4 start stop idx).texel = s.texel := rfl
@[simp] theorem State.writeCandidate_block (mode4 : Bool) (start stop : Vec3) (idx : Vector (BitVec 2) 16) (s : State) :
    (s.writeCandidate mode4 start stop idx).block =
      (s.writeBlockHalf (colourHigh s.ps.cfg) (candidateBytes mode4 start stop idx)).block := rfl
@[simp] theorem State.writeCandidate_ps (mode4 : Bool) (start stop : Vec3) (idx : Vector (BitVec 2) 16) (s : State) :
    (s.writeCandidate mode4 start stop idx).ps = s.ps := rfl
@[simp] theorem State.writeCandidate_fit (mode4 : Bool) (start stop : Vec3) (idx : Vector (BitVec 2) 16) (s : State) :
    (s.writeCandidate mode4 start stop idx).fit = { s.fit with start := start, stop := stop, idx := idx, mode4 := mode4, valid := true } := rfl
@[simp] theorem State.writeCandidate_besterr (mode4 : Bool) (start stop : Vec3) (idx : Vector (BitVec 2) 16) (s : State) :
    (s.writeCandidate mode4 start stop idx).besterr = s.besterr := rfl
@[simp] theorem State.writeCandidate_besterrI (mode4 : Bool) (start stop : Vec3) (idx : Vector (BitVec 2) 16) (s : State) :
    (s.writeCandidate mode4 start stop idx).besterrI = s.besterrI := rfl
@[simp] theorem State.writeCandidate_aerr5 (mode4 : Bool) (start stop : Vec3) (idx : Vector (BitVec 2) 16) (s : State) :
    (s.writeCandidate mode4 start stop idx).aerr5 = s.aerr5 := rfl
@[simp] theorem State.writeCandidate_aerr7 (mode4 : Bool) (start stop : Vec3) (idx : Vector (BitVec 2) 16) (s : State) :
    (s.writeCandidate mode4 start stop idx).aerr7 = s.aerr7 := rfl
@[simp] theorem State.writeCandidate_iters (mode4 : Bool) (start stop : Vec3) (idx : Vector (BitVec 2) 16) (s : State) :
    (s.writeCandidate mode4 start stop idx).iters = s.iters := rfl
@[simp] theorem State.writeCandidate_bestIter (mode4 : Bool) (start stop : Vec3) (idx : Vector (BitVec 2) 16) (s : State) :
    (s.writeCandidate mode4 start stop idx).bestIter = s.bestIter := rfl
@[simp] theorem State.writeCandidate_order (mode4 : Bool) (start stop : Vec3) (idx : Vector (BitVec 2) 16) (s : State) :
    (s.writeCandidate mode4 start stop idx).order = s.order := rfl
@[simp] theorem State.writeCandidate_events (mode4 : Bool) (start stop : Vec3) (idx : Vector (BitVec 2) 16) (s : State) :
    (s.writeCandidate mode4 start stop idx).events = s.events := rfl
@[simp] theorem State.writeCandidate_oracle (mode4 : Bool) (start stop : Vec3) (idx : Vector (BitVec 2) 16) (s : State) :
    (s.writeCandidate mode4 start stop idx).oracle = s.oracle := rfl
@[simp] theorem State.writeCandidate_rdata (mode4 : Bool) (start stop : Vec3) (idx : Vector (BitVec 2) 16) (s : State) :
    (s.writeCandidate mode4 start stop idx).rdata = s.rdata := rfl

/-! ### the BC2 alpha encoder (R375) -/

@[simp] theorem State.putAlpha3_cfg (m : BitVec 16) (s : State) : (s.putAlpha3 m).cfg = s.cfg := rfl
@[simp] theorem State.putAlpha3_mask (m : BitVec 16) (s : State) : (s.putAlpha3 m).mask = s.mask := rfl
@[simp] theorem State.putAlpha3_done (m : BitVec 16) (s : State) : (s.putAlpha3 m).done = s.done := rfl
@[simp] theorem State.putAlpha3_err (m : BitVec 16) (s : State) : (s.putAlpha3 m).err = s.err := rfl
@[simp] theorem State.putAlpha3_ecode (m : BitVec 16) (s : State) : (s.putAlpha3 m).ecode = s.ecode := rfl
@[simp] theorem State.putAlpha3_lastop (m : BitVec 16) (s : State) : (s.putAlpha3 m).lastop = s.lastop := rfl
@[simp] theorem State.putAlpha3_busy (m : BitVec 16) (s : State) : (s.putAlpha3 m).busy = s.busy := rfl
@[simp] theorem State.putAlpha3_pending (m : BitVec 16) (s : State) : (s.putAlpha3 m).pending = s.pending := rfl
@[simp] theorem State.putAlpha3_texel (m : BitVec 16) (s : State) : (s.putAlpha3 m).texel = s.texel := rfl
@[simp] theorem State.putAlpha3_block (m : BitVec 16) (s : State) :
    (s.putAlpha3 m).block = (s.writeBlockHalf false (encodeAlpha3 s.texel m)).block := rfl
@[simp] theorem State.putAlpha3_ps (m : BitVec 16) (s : State) : (s.putAlpha3 m).ps = s.ps := rfl
@[simp] theorem State.putAlpha3_fit (m : BitVec 16) (s : State) : (s.putAlpha3 m).fit = s.fit := rfl
@[simp] theorem State.putAlpha3_besterr (m : BitVec 16) (s : State) : (s.putAlpha3 m).besterr = s.besterr := rfl
@[simp] theorem State.putAlpha3_besterrI (m : BitVec 16) (s : State) : (s.putAlpha3 m).besterrI = s.besterrI := rfl
@[simp] theorem State.putAlpha3_aerr5 (m : BitVec 16) (s : State) : (s.putAlpha3 m).aerr5 = s.aerr5 := rfl
@[simp] theorem State.putAlpha3_aerr7 (m : BitVec 16) (s : State) : (s.putAlpha3 m).aerr7 = s.aerr7 := rfl
@[simp] theorem State.putAlpha3_iters (m : BitVec 16) (s : State) : (s.putAlpha3 m).iters = s.iters := rfl
@[simp] theorem State.putAlpha3_bestIter (m : BitVec 16) (s : State) : (s.putAlpha3 m).bestIter = s.bestIter := rfl
@[simp] theorem State.putAlpha3_order (m : BitVec 16) (s : State) : (s.putAlpha3 m).order = s.order := rfl
@[simp] theorem State.putAlpha3_events (m : BitVec 16) (s : State) : (s.putAlpha3 m).events = s.events := rfl
@[simp] theorem State.putAlpha3_oracle (m : BitVec 16) (s : State) : (s.putAlpha3 m).oracle = s.oracle := rfl
@[simp] theorem State.putAlpha3_rdata (m : BitVec 16) (s : State) : (s.putAlpha3 m).rdata = s.rdata := rfl

/-! ### the BC3 alpha encoder (R390) -/

@[simp] theorem State.putAlpha5_cfg (p : Params) (m : BitVec 16) (s : State) :
    (State.putAlpha5 p s m).cfg = s.cfg := rfl
@[simp] theorem State.putAlpha5_mask (p : Params) (m : BitVec 16) (s : State) :
    (State.putAlpha5 p s m).mask = s.mask := rfl
@[simp] theorem State.putAlpha5_done (p : Params) (m : BitVec 16) (s : State) :
    (State.putAlpha5 p s m).done = s.done := rfl
@[simp] theorem State.putAlpha5_err (p : Params) (m : BitVec 16) (s : State) :
    (State.putAlpha5 p s m).err = s.err := rfl
@[simp] theorem State.putAlpha5_ecode (p : Params) (m : BitVec 16) (s : State) :
    (State.putAlpha5 p s m).ecode = s.ecode := rfl
@[simp] theorem State.putAlpha5_lastop (p : Params) (m : BitVec 16) (s : State) :
    (State.putAlpha5 p s m).lastop = s.lastop := rfl
@[simp] theorem State.putAlpha5_busy (p : Params) (m : BitVec 16) (s : State) :
    (State.putAlpha5 p s m).busy = s.busy := rfl
@[simp] theorem State.putAlpha5_pending (p : Params) (m : BitVec 16) (s : State) :
    (State.putAlpha5 p s m).pending = s.pending := rfl
@[simp] theorem State.putAlpha5_texel (p : Params) (m : BitVec 16) (s : State) :
    (State.putAlpha5 p s m).texel = s.texel := rfl
@[simp] theorem State.putAlpha5_block (p : Params) (m : BitVec 16) (s : State) :
    (State.putAlpha5 p s m).block = (s.writeBlockHalf false (encodeAlpha5 p s.texel m).bytes).block := rfl
@[simp] theorem State.putAlpha5_ps (p : Params) (m : BitVec 16) (s : State) : (State.putAlpha5 p s m).ps = s.ps := rfl
@[simp] theorem State.putAlpha5_fit (p : Params) (m : BitVec 16) (s : State) :
    (State.putAlpha5 p s m).fit = s.fit := rfl
@[simp] theorem State.putAlpha5_besterr (p : Params) (m : BitVec 16) (s : State) :
    (State.putAlpha5 p s m).besterr = s.besterr := rfl
@[simp] theorem State.putAlpha5_besterrI (p : Params) (m : BitVec 16) (s : State) :
    (State.putAlpha5 p s m).besterrI = s.besterrI := rfl
@[simp] theorem State.putAlpha5_aerr5 (p : Params) (m : BitVec 16) (s : State) :
    (State.putAlpha5 p s m).aerr5 = BitVec.ofNat 32 (encodeAlpha5 p s.texel m).e5 := rfl
@[simp] theorem State.putAlpha5_aerr7 (p : Params) (m : BitVec 16) (s : State) :
    (State.putAlpha5 p s m).aerr7 = BitVec.ofNat 32 (encodeAlpha5 p s.texel m).e7 := rfl
@[simp] theorem State.putAlpha5_iters (p : Params) (m : BitVec 16) (s : State) :
    (State.putAlpha5 p s m).iters = s.iters := rfl
@[simp] theorem State.putAlpha5_bestIter (p : Params) (m : BitVec 16) (s : State) :
    (State.putAlpha5 p s m).bestIter = s.bestIter := rfl
@[simp] theorem State.putAlpha5_order (p : Params) (m : BitVec 16) (s : State) :
    (State.putAlpha5 p s m).order = s.order := rfl
@[simp] theorem State.putAlpha5_events (p : Params) (m : BitVec 16) (s : State) :
    (State.putAlpha5 p s m).events = s.events := rfl
@[simp] theorem State.putAlpha5_oracle (p : Params) (m : BitVec 16) (s : State) :
    (State.putAlpha5 p s m).oracle = s.oracle := rfl
@[simp] theorem State.putAlpha5_rdata (p : Params) (m : BitVec 16) (s : State) :
    (State.putAlpha5 p s m).rdata = s.rdata := rfl

/-! ### CLEAR (R414) -/

@[simp] theorem State.cleared_cfg (s : State) : (s.cleared).cfg = s.cfg := rfl
@[simp] theorem State.cleared_mask (s : State) : (s.cleared).mask = s.mask := rfl
@[simp] theorem State.cleared_done (s : State) : (s.cleared).done = s.done := rfl
@[simp] theorem State.cleared_err (s : State) : (s.cleared).err = s.err := rfl
@[simp] theorem State.cleared_ecode (s : State) : (s.cleared).ecode = s.ecode := rfl
@[simp] theorem State.cleared_lastop (s : State) : (s.cleared).lastop = s.lastop := rfl
@[simp] theorem State.cleared_busy (s : State) : (s.cleared).busy = s.busy := rfl
@[simp] theorem State.cleared_pending (s : State) : (s.cleared).pending = s.pending := rfl
@[simp] theorem State.cleared_texel (s : State) : (s.cleared).texel = s.texel := rfl
@[simp] theorem State.cleared_block (s : State) : (s.cleared).block = s.block := rfl
@[simp] theorem State.cleared_ps (s : State) : (s.cleared).ps = PointSet.reset := rfl
@[simp] theorem State.cleared_fit (s : State) : (s.cleared).fit = FitResult.reset := rfl
@[simp] theorem State.cleared_besterr (s : State) : (s.cleared).besterr = ⟨0#32⟩ := rfl
@[simp] theorem State.cleared_besterrI (s : State) : (s.cleared).besterrI = 0#32 := rfl
@[simp] theorem State.cleared_aerr5 (s : State) : (s.cleared).aerr5 = 0#32 := rfl
@[simp] theorem State.cleared_aerr7 (s : State) : (s.cleared).aerr7 = 0#32 := rfl
@[simp] theorem State.cleared_iters (s : State) : (s.cleared).iters = 0 := rfl
@[simp] theorem State.cleared_bestIter (s : State) : (s.cleared).bestIter = 0 := rfl
@[simp] theorem State.cleared_order (s : State) : (s.cleared).order = Vector.replicate 128 0#8 := rfl
@[simp] theorem State.cleared_events (s : State) : (s.cleared).events = s.events := rfl
@[simp] theorem State.cleared_oracle (s : State) : (s.cleared).oracle = s.oracle := rfl
@[simp] theorem State.cleared_rdata (s : State) : (s.cleared).rdata = s.rdata := rfl

/-! ### a reset (R480) -/

@[simp] theorem State.resetEvent_cfg (s : State) : (s.resetEvent).cfg = State.reset.cfg := rfl
@[simp] theorem State.resetEvent_mask (s : State) : (s.resetEvent).mask = State.reset.mask := rfl
@[simp] theorem State.resetEvent_done (s : State) : (s.resetEvent).done = State.reset.done := rfl
@[simp] theorem State.resetEvent_err (s : State) : (s.resetEvent).err = State.reset.err := rfl
@[simp] theorem State.resetEvent_ecode (s : State) : (s.resetEvent).ecode = State.reset.ecode := rfl
@[simp] theorem State.resetEvent_lastop (s : State) : (s.resetEvent).lastop = State.reset.lastop := rfl
@[simp] theorem State.resetEvent_busy (s : State) : (s.resetEvent).busy = State.reset.busy := rfl
@[simp] theorem State.resetEvent_pending (s : State) : (s.resetEvent).pending = State.reset.pending := rfl
@[simp] theorem State.resetEvent_texel (s : State) : (s.resetEvent).texel = State.reset.texel := rfl
@[simp] theorem State.resetEvent_block (s : State) : (s.resetEvent).block = State.reset.block := rfl
@[simp] theorem State.resetEvent_ps (s : State) : (s.resetEvent).ps = State.reset.ps := rfl
@[simp] theorem State.resetEvent_fit (s : State) : (s.resetEvent).fit = State.reset.fit := rfl
@[simp] theorem State.resetEvent_besterr (s : State) : (s.resetEvent).besterr = State.reset.besterr := rfl
@[simp] theorem State.resetEvent_besterrI (s : State) : (s.resetEvent).besterrI = State.reset.besterrI := rfl
@[simp] theorem State.resetEvent_aerr5 (s : State) : (s.resetEvent).aerr5 = State.reset.aerr5 := rfl
@[simp] theorem State.resetEvent_aerr7 (s : State) : (s.resetEvent).aerr7 = State.reset.aerr7 := rfl
@[simp] theorem State.resetEvent_iters (s : State) : (s.resetEvent).iters = State.reset.iters := rfl
@[simp] theorem State.resetEvent_bestIter (s : State) : (s.resetEvent).bestIter = State.reset.bestIter := rfl
@[simp] theorem State.resetEvent_order (s : State) : (s.resetEvent).order = State.reset.order := rfl
@[simp] theorem State.resetEvent_events (s : State) : (s.resetEvent).events = s.events := rfl
@[simp] theorem State.resetEvent_oracle (s : State) : (s.resetEvent).oracle = s.oracle := rfl
@[simp] theorem State.resetEvent_rdata (s : State) : (s.resetEvent).rdata = s.rdata := rfl

end Sys2Proof.Machine
end

