-- ==== Sys2Proof/Laws/Ops.lean ====
section
/-! SUPPORT. What each shared operation can do, said once: command steps, host accesses, the byte lanes of the block buffer
and of the texel registers, the packed views, the opcode map and the register map. -/

namespace Sys2Proof.Machine

/-! ### command steps (R452, R454) -/

/-- A command step always answers a next state. -/
theorem runCommand_next (body : State → Except ErrorCode State) (s : State) : ∃ t, runCommand body s = .next t := by
  unfold runCommand
  split <;> exact ⟨_, rfl⟩

/-- What a command step answers: the body's state completed, or the error recorded and nothing else. -/
theorem runCommand_cases {body : State → Except ErrorCode State} {s t : State} (h : runCommand body s = .next t) :
    (∃ u, body s = .ok u ∧ t = u.complete) ∨ (∃ e, body s = .error e ∧ t = s.abort e) := by
  unfold runCommand at h
  split at h
  · next u hu => exact .inl ⟨u, hu, by injection h with h; exact h.symm⟩
  · next e he => exact .inr ⟨e, he, by injection h with h; exact h.symm⟩

theorem runCommand_ok {body : State → Except ErrorCode State} {s u : State} (h : body s = .ok u) :
    runCommand body s = .next u.complete := by simp [runCommand, h]

theorem runCommand_error {body : State → Except ErrorCode State} {s : State} {e : ErrorCode}
    (h : body s = .error e) : runCommand body s = .next (s.abort e) := by simp [runCommand, h]

/-- The pseudocode of a command, as `runCommand` runs it. -/
def commandBody (i : Instr) : State → Except ErrorCode State :=
  match i with
  | .nop => nopBody
  | .compress => compressBody Config.params
  | .compressMasked => compressMaskedBody Config.params
  | .decompress => decompressBody Config.params
  | .clear => clearBody
  | .psBuild => psBuildBody
  | .fitAuto => fitAutoBody Config.params
  | .fitSingle => fitSingleBody Config.params
  | .fitRange => fitRangeBody Config.params
  | .fitCluster => fitClusterBody Config.params
  | .pack3 => pack3Body
  | .pack4 => pack4Body
  | .colourDec => colourDecBody Config.params
  | .alpha3Enc => alpha3EncBody
  | .alpha3Dec => alpha3DecBody
  | .alpha5Enc => alpha5EncBody Config.params
  | .alpha5Dec => alpha5DecBody

/-- Every meaning is one command step over its pseudocode. -/
theorem exec_eq_runCommand (i : Instr) (s : State) : exec i s = runCommand (commandBody i) s := by cases i <;> rfl

/-- Every command step answers a next state: no meaning faults or refuses. -/
theorem exec_next (i : Instr) (s : State) : ∃ t, exec i s = .next t :=
  exec_eq_runCommand i s ▸ runCommand_next _ _

/-- What a command answers: its pseudocode's state completed, or the error recorded and nothing else. -/
theorem exec_cases {i : Instr} {s t : State} (h : exec i s = .next t) :
    (∃ u, commandBody i s = .ok u ∧ t = u.complete) ∨ (∃ e, commandBody i s = .error e ∧ t = s.abort e) :=
  runCommand_cases (exec_eq_runCommand i s ▸ h)

/-! ### the opcode map (R100 to R103) -/

theorem decodeOp_opcode (i : Instr) : decodeOp i.opcode = some i := by cases i <;> rfl

theorem opcode_of_decodeOp {op : Byte} {i : Instr} (h : decodeOp op = some i) : op = i.opcode := by
  unfold decodeOp at h
  split at h <;> first | (cases h; apply BitVec.eq_of_toNat_eq; assumption) | cases h

theorem decodeOp_eq_some {op : Byte} {i : Instr} : decodeOp op = some i ↔ op = i.opcode :=
  ⟨opcode_of_decodeOp, fun h => h ▸ decodeOp_opcode i⟩

theorem decode_encode (i : Instr) : decode (encode i) = .ok i := by cases i <;> rfl

/-- The three answers of the decoder. -/
theorem decode_cases (w : Word) :
    (w.extractLsb' 8 24 ≠ 0#24 ∧ decode w = .error .reserved) ∨
    (w.extractLsb' 8 24 = 0#24 ∧ decodeOp (w.extractLsb' 0 8) = none ∧ decode w = .error .illegalOp) ∨
    (∃ i, w.extractLsb' 8 24 = 0#24 ∧ decodeOp (w.extractLsb' 0 8) = some i ∧ decode w = .ok i) := by
  by_cases hr : w.extractLsb' 8 24 = 0#24
  · cases ho : decodeOp (w.extractLsb' 0 8) with
    | none => exact .inr (.inl ⟨hr, rfl, by simp [decode, CommandWord.ofWord, hr, ho]⟩)
    | some i => exact .inr (.inr ⟨i, hr, rfl, by simp [decode, CommandWord.ofWord, hr, ho]⟩)
  · exact .inl ⟨hr, by simp [decode, CommandWord.ofWord, hr]⟩

/-- A word the decoder reads is the command word of the command it reads. -/
theorem encode_of_decode {w : Word} {i : Instr} (h : decode w = .ok i) : w = encode i := by
  rcases decode_cases w with ⟨-, h'⟩ | ⟨-, -, h'⟩ | ⟨j, hr, ho, h'⟩
  · rw [h'] at h; cases h
  · rw [h'] at h; cases h
  · rw [h'] at h
    cases h
    have hop := opcode_of_decodeOp ho
    have hw : w = w.extractLsb' 8 24 ++ w.extractLsb' 0 8 := by
      apply BitVec.eq_of_toNat_eq
      simp only [BitVec.toNat_append, BitVec.extractLsb'_toNat, Nat.shiftRight_zero]
      rw [← Nat.shiftLeft_add_eq_or_of_lt (Nat.mod_lt _ (by decide)), Nat.shiftLeft_eq, Nat.shiftRight_eq_div_pow]
      have := w.isLt
      omega
    rw [hw, hr, hop]
    rfl

/-! ### the register map (R33) -/

set_option maxRecDepth 10000 in
theorem regAt_regOffset (r : Reg) : regAt (BitVec.ofNat 12 (regOffset r)) = some r := by
  cases r with
  | texel i => revert i; decide
  | block w => revert w; decide
  | fitStart l => revert l; decide
  | fitEnd l => revert l; decide
  | psPoint k l => revert k l; decide
  | psWeight k => revert k; decide
  | order m => revert m; decide
  | _ => decide

/-- What a host write does (R450, R453). -/
theorem hostWrite_cases (s : State) (off : BitVec 12) (v : Word) :
    (regAt off = none ∧ s.hostWrite off v = s.raise .badAddr) ∨
    (∃ r, regAt off = some r ∧ readOnly r = true ∧ s.hostWrite off v = s.raise .roWrite) ∨
    (∃ r, regAt off = some r ∧ readOnly r = false ∧ s.busy = true ∧ r ≠ .status ∧
      s.hostWrite off v = s.raise .busy) ∨
    (∃ r, regAt off = some r ∧ readOnly r = false ∧ (s.busy = false ∨ r = .status) ∧
      s.hostWrite off v = s.store r v) := by
  unfold State.hostWrite
  cases hr : regAt off with
  | none => exact .inl ⟨rfl, rfl⟩
  | some r =>
    refine .inr ?_
    cases hro : readOnly r with
    | true => exact .inl ⟨r, rfl, hro, by simp [hro]⟩
    | false =>
      refine .inr ?_
      by_cases hb : s.busy = true ∧ r ≠ .status
      · exact .inl ⟨r, rfl, hro, hb.1, hb.2, by simp [hro, hb.1, hb.2]⟩
      · refine .inr ⟨r, rfl, hro, ?_, ?_⟩
        · by_cases h : s.busy = true
          · exact .inr (by by_contra h'; exact hb ⟨h, h'⟩)
          · exact .inl (by simpa using h)
        · have : (s.busy && r != .status) = false := by
            cases h : s.busy
            · rfl
            · simp only [Bool.true_and, bne_eq_false_iff_eq]
              by_contra h'; exact hb ⟨h, h'⟩
          simp [hro, this]

/-- A host read changes nothing but the read data, the number of free values drawn, and (for an offset outside the map) the
error fields (R77, R450, R490). -/
theorem hostRead_cases (s : State) (off : BitVec 12) :
    (regAt off = none ∧ s.hostRead off = { s.raise .badAddr with rdata := 0#32 }) ∨
    (regAt off = some .cmd ∧ s.hostRead off = { s with rdata := 0#32 }) ∨
    (∃ r, regAt off = some r ∧ r ≠ .cmd ∧ r ≠ .status ∧ s.busy = true ∧
      s.hostRead off = { s with rdata := Config.busyRead s.oracle, oracle := s.oracle + 1 }) ∨
    (∃ r, regAt off = some r ∧ r ≠ .cmd ∧ (s.busy = false ∨ r = .status) ∧
      s.hostRead off = { s with rdata := s.regValue r }) := by
  unfold State.hostRead
  cases hr : regAt off with
  | none => exact .inl ⟨rfl, rfl⟩
  | some r =>
    refine .inr ?_
    by_cases hc : r = .cmd
    · exact .inl ⟨by rw [hc], by simp [hc]⟩
    · refine .inr ?_
      by_cases hb : s.busy = true ∧ r ≠ .status
      · exact .inl ⟨r, rfl, hc, hb.2, hb.1, by simp [hc, hb.1, hb.2]⟩
      · refine .inr ⟨r, rfl, hc, ?_, ?_⟩
        · by_cases h : s.busy = true
          · exact .inr (by by_contra h'; exact hb ⟨h, h'⟩)
          · exact .inl (by simpa using h)
        · have : (s.busy && r != .status) = false := by
            cases h : s.busy
            · rfl
            · simp only [Bool.true_and, bne_eq_false_iff_eq]
              by_contra h'; exact hb ⟨h, h'⟩
          simp [hc, this]

/-! ### byte lanes (R31, R32, R71, R72) -/

/-- The Nat a texel register holds, from its four bytes. -/
theorem toNat_texelOf (x : Rgba) :
    (texelOf x).toNat = x.a.toNat * 16777216 + x.b.toNat * 65536 + x.g.toNat * 256 + x.r.toNat := by
  unfold texelOf
  simp only [BitVec.toNat_append]
  rw [← Nat.shiftLeft_add_eq_or_of_lt x.r.isLt, ← Nat.shiftLeft_add_eq_or_of_lt x.g.isLt,
    ← Nat.shiftLeft_add_eq_or_of_lt x.b.isLt]
  simp only [Nat.shiftLeft_eq]
  omega

@[simp] theorem texelR_texelOf (x : Rgba) : texelR (texelOf x) = x.r := by
  apply BitVec.eq_of_toNat_eq
  have := x.r.isLt; have := x.g.isLt; have := x.b.isLt; have := x.a.isLt
  simp only [texelR, BitVec.extractLsb'_toNat, toNat_texelOf, Nat.shiftRight_eq_div_pow]
  omega
@[simp] theorem texelG_texelOf (x : Rgba) : texelG (texelOf x) = x.g := by
  apply BitVec.eq_of_toNat_eq
  have := x.r.isLt; have := x.g.isLt; have := x.b.isLt; have := x.a.isLt
  simp only [texelG, BitVec.extractLsb'_toNat, toNat_texelOf, Nat.shiftRight_eq_div_pow]
  omega
@[simp] theorem texelB_texelOf (x : Rgba) : texelB (texelOf x) = x.b := by
  apply BitVec.eq_of_toNat_eq
  have := x.r.isLt; have := x.g.isLt; have := x.b.isLt; have := x.a.isLt
  simp only [texelB, BitVec.extractLsb'_toNat, toNat_texelOf, Nat.shiftRight_eq_div_pow]
  omega
@[simp] theorem texelA_texelOf (x : Rgba) : texelA (texelOf x) = x.a := by
  apply BitVec.eq_of_toNat_eq
  have := x.r.isLt; have := x.g.isLt; have := x.b.isLt; have := x.a.isLt
  simp only [texelA, BitVec.extractLsb'_toNat, toNat_texelOf, Nat.shiftRight_eq_div_pow]
  omega

/-- A texel register is its four lanes. -/
theorem texelOf_lanes (t : Word) : texelOf ⟨texelR t, texelG t, texelB t, texelA t⟩ = t := by
  apply BitVec.eq_of_toNat_eq
  have := t.isLt
  simp only [toNat_texelOf, texelR, texelG, texelB, texelA, BitVec.extractLsb'_toNat, Nat.shiftRight_eq_div_pow]
  omega

/-- An alpha write replaces the A lane and keeps the others (R72). -/
theorem withAlpha_eq (t : Word) (a : Byte) : withAlpha t a = texelOf ⟨texelR t, texelG t, texelB t, a⟩ := by
  apply BitVec.eq_of_toNat_eq
  simp only [toNat_texelOf, withAlpha, BitVec.toNat_append, texelR, texelG, texelB, BitVec.extractLsb'_toNat,
    Nat.shiftRight_eq_div_pow]
  rw [← Nat.shiftLeft_add_eq_or_of_lt (Nat.mod_lt _ (by decide)), Nat.shiftLeft_eq]
  have := a.isLt
  omega

@[simp] theorem texelR_withAlpha (t : Word) (a : Byte) : texelR (withAlpha t a) = texelR t := by simp [withAlpha_eq]
@[simp] theorem texelG_withAlpha (t : Word) (a : Byte) : texelG (withAlpha t a) = texelG t := by simp [withAlpha_eq]
@[simp] theorem texelB_withAlpha (t : Word) (a : Byte) : texelB (withAlpha t a) = texelB t := by simp [withAlpha_eq]
@[simp] theorem texelA_withAlpha (t : Word) (a : Byte) : texelA (withAlpha t a) = a := by simp [withAlpha_eq]

/-- The Nat a register word holds, from its four bytes. -/
theorem toNat_wordOfBytes (b0 b1 b2 b3 : Byte) :
    (wordOfBytes b0 b1 b2 b3).toNat = b3.toNat * 16777216 + b2.toNat * 65536 + b1.toNat * 256 + b0.toNat := by
  have := toNat_texelOf ⟨b0, b1, b2, b3⟩
  simpa [texelOf, wordOfBytes] using this

@[simp] theorem wordByte_wordOfBytes (b0 b1 b2 b3 : Byte) (k : Fin 4) :
    wordByte (wordOfBytes b0 b1 b2 b3) k = (#v[b0, b1, b2, b3] : Vector Byte 4)[k] := by
  have := b0.isLt; have := b1.isLt; have := b2.isLt; have := b3.isLt
  apply BitVec.eq_of_toNat_eq
  match k with
  | 0 | 1 | 2 | 3 =>
    simp [wordByte, toNat_wordOfBytes, Nat.shiftRight_eq_div_pow]
    try omega

/-- Byte `n` of the block buffer after a write of one half: the written byte in that half, its old value in the other
(R32, R233). -/
theorem blockByte_writeBlockHalf (s : State) (high : Bool) (b : Vector Byte 8) (n : Fin 16) :
    (s.writeBlockHalf high b).blockByte n =
      if decide (8 ≤ n.val) = high then b[n.val % 8]'(by omega) else s.blockByte n := by
  revert n
  cases high <;> simp [Fin.forall_fin_succ, State.blockByte, State.writeBlockHalf]

/-- The written half reads back as written. -/
@[simp] theorem blockHalf_writeBlockHalf_same (s : State) (high : Bool) (b : Vector Byte 8) :
    (s.writeBlockHalf high b).blockHalf high = b := by
  apply Vector.ext
  intro k hk
  simp only [State.blockHalf, Vector.getElem_ofFn, blockByte_writeBlockHalf]
  cases high
  · simp [Nat.not_le.mpr hk, Nat.mod_eq_of_lt hk]
  · simp [Nat.mod_eq_of_lt hk]

/-- The other half keeps its bytes. -/
theorem blockHalf_writeBlockHalf_other (s : State) (high : Bool) (b : Vector Byte 8) :
    (s.writeBlockHalf high b).blockHalf (!high) = s.blockHalf (!high) := by
  apply Vector.ext
  intro k hk
  simp only [State.blockHalf, Vector.getElem_ofFn, blockByte_writeBlockHalf]
  cases high
  · simp
  · simp [Nat.not_le.mpr hk]

/-- A register word is its four bytes. -/
theorem wordOfBytes_wordByte (w : Word) :
    wordOfBytes (wordByte w 0) (wordByte w 1) (wordByte w 2) (wordByte w 3) = w := by
  apply BitVec.eq_of_toNat_eq
  have := w.isLt
  simp [toNat_wordOfBytes, wordByte, Nat.shiftRight_eq_div_pow]
  omega

/-- Two block buffers with the same sixteen bytes are equal. -/
theorem block_ext {s t : State} (h : ∀ n, s.blockByte n = t.blockByte n) : s.block = t.block := by
  apply Vector.ext
  intro w hw
  have key (u : State) : u.block[w] = wordOfBytes (u.blockByte ⟨4 * w, by omega⟩) (u.blockByte ⟨4 * w + 1, by omega⟩)
      (u.blockByte ⟨4 * w + 2, by omega⟩) (u.blockByte ⟨4 * w + 3, by omega⟩) := by
    have h0 : 4 * w / 4 = w := by omega
    have h1 : (4 * w + 1) / 4 = w := by omega
    have h2 : (4 * w + 2) / 4 = w := by omega
    have h3 : (4 * w + 3) / 4 = w := by omega
    simp only [State.blockByte, h0, h1, h2, h3, Nat.mul_add_mod, Nat.mul_mod_right]
    exact (wordOfBytes_wordByte _).symm
  rw [key, key, h, h, h, h]

/-! ### the trials of a fit (R231) -/

/-- The shared trial sequencing keeps what both trials keep (R231). -/
theorem fitTrial_preserves {β : Type} (P : State × β → Prop) (f : BitVec 9) (tr : Bool)
    (t3 t4 : State × β → State × β) (h3 : ∀ x, P x → P (t3 x)) (h4 : ∀ x, P x → P (t4 x)) (x : State × β) (hx : P x) :
    P (fitTrial f tr t3 t4 x) := by
  unfold fitTrial
  split
  · split
    · exact h3 _ hx
    · exact h4 _ (h3 _ hx)
  · exact h4 _ hx

end Sys2Proof.Machine
end

