-- ==== Sys2Proof/Laws/Fits.lean ====
section
/-! SUPPORT. What each trial of a fit, the partition search and the iteration loop can do, said once. -/

namespace Sys2Proof.Machine

/-! ### trials (R232, R276, R305) -/

/-- A range trial leaves everything as it was, or writes its candidate because its error is below the running best. -/
theorem rangeTrial_cases (mode4 : Bool) (start stop : Vec3) (codes : List Vec3) (x : State × F32) (r : List (BitVec 2) × F32)
    (hr : r = assign (metric3 x.1.ps.cfg) codes (x.1.ps.used.map Prod.fst)) :
    (r.2.lt x.2 = false ∧ rangeTrial mode4 start stop codes x = x) ∨
    (r.2.lt x.2 = true ∧ rangeTrial mode4 start stop codes x =
      (x.1.writeCandidate mode4 start stop (remapIndices x.1.ps.remap (indexVector r.1)), r.2)) := by
  subst hr
  unfold rangeTrial
  cases h : (assign (metric3 x.1.ps.cfg) codes (x.1.ps.used.map Prod.fst)).2.lt x.2
  · exact .inl ⟨rfl, by simp [h]⟩
  · exact .inr ⟨rfl, by simp [h]⟩

/-- A single-colour trial leaves everything as it was, or writes its candidate because its error is below the running best. -/
theorem singleTrial_cases (p : Params) (mode4 : Bool) (col : SingleColour) (x : State × Nat) (r : SingleResult)
    (hr : r = computeEndPoints p (if mode4 then .four else .three) col) :
    (¬ r.err < x.2 ∧ singleTrial p mode4 col x = x) ∨
    (r.err < x.2 ∧ singleTrial p mode4 col x =
      (x.1.writeCandidate mode4 r.start r.stop (remapIndices x.1.ps.remap (indexVector [r.index])), r.err)) := by
  subst hr
  unfold singleTrial
  by_cases h : (computeEndPoints p (if mode4 then .four else .three) col).err < x.2
  · exact .inr ⟨h, by simp [h]⟩
  · exact .inl ⟨h, by simp [h]⟩

/-- A cluster trial records the orderings it tried, and writes its candidate only if its error is below the running best. -/
theorem clusterTrial_cases (size : CodebookSize) (axis : Vec3) (x : State × F32) (r : SearchResult) (s : State)
    (hr : r = clusterSearch size x.1.ps.cfg x.1.ps.used axis x.1.order x.2)
    (hs : s = { x.1 with order := r.order, iters := r.tried }) :
    (r.best.error.compareAnyLessThan (Vec4.splat x.2) = false ∧ clusterTrial size axis x = (s, x.2)) ∨
    (r.best.error.compareAnyLessThan (Vec4.splat x.2) = true ∧ clusterTrial size axis x =
      ({ s.writeCandidate (isFour size) r.best.start.getVec3 r.best.stop.getVec3
          (remapIndices x.1.ps.remap (unorder size r.order r.best x.1.ps.used.length)) with bestIter := r.best.it },
        r.best.error.x)) := by
  subst hr hs
  unfold clusterTrial
  cases h : (clusterSearch size x.1.ps.cfg x.1.ps.used axis x.1.order x.2).best.error.compareAnyLessThan (Vec4.splat x.2)
  · exact .inl ⟨rfl, by simp [h]⟩
  · exact .inr ⟨rfl, by simp [h]⟩

/-! ### the partition search (R265, R266) -/

/-- A test of one partition keeps the search state or makes it this partition, of this iteration. -/
theorem consider_cases (b : Search) (r : Solution) (i j k it : Nat) :
    b.consider r i j k it = b ∨
      (r.err.compareAnyLessThan b.error = true ∧ b.consider r i j k it = ⟨r.err, r.a, r.b, i, j, k, it⟩) := by
  unfold Search.consider
  cases h : r.err.compareAnyLessThan b.error
  · exact .inl (by simp)
  · exact .inr ⟨rfl, by simp⟩

/-- A property of search states that every test keeps. -/
def KeptByTests (it : Nat) (P : Search → Prop) : Prop :=
  ∀ (b : Search) (r : Solution) (i j k : Nat), P b → P (b.consider r i j k it)

theorem enumerate3Inner_keeps {it : Nat} {P : Search → Prop} (hP : KeptByTests it P) (metric xsum part0 : Vec4) (i : Nat)
    (l : List Vec4) (part1 : Vec4) (j : Nat) (b : Search) (hb : P b) :
    P (enumerate3Inner metric xsum part0 it i l part1 j b) := by
  induction l generalizing part1 j b with
  | nil => exact hP _ _ _ _ _ hb
  | cons x xs ih => exact ih _ _ _ (hP _ _ _ _ _ hb)

theorem enumerate3From_keeps {it : Nat} {P : Search → Prop} (hP : KeptByTests it P) (metric xsum : Vec4)
    (l : List Vec4) (part0 : Vec4) (i : Nat) (b : Search) (hb : P b) :
    P (enumerate3From metric xsum it l part0 i b) := by
  induction l generalizing part0 i b with
  | nil => exact hb
  | cons x xs ih => exact ih _ _ _ (enumerate3Inner_keeps hP _ _ _ _ _ _ _ _ hb)

theorem enumerate4Inner_keeps {it : Nat} {P : Search → Prop} (hP : KeptByTests it P) (metric xsum part0 part1 : Vec4)
    (i j : Nat) (l : List Vec4) (part2 : Vec4) (k : Nat) (b : Search) (hb : P b) :
    P (enumerate4Inner metric xsum part0 part1 it i j l part2 k b) := by
  induction l generalizing part2 k b with
  | nil => exact hP _ _ _ _ _ hb
  | cons x xs ih => exact ih _ _ _ (hP _ _ _ _ _ hb)

theorem enumerate4Middle_keeps {it : Nat} {P : Search → Prop} (hP : KeptByTests it P) (metric xsum part0 : Vec4) (i : Nat)
    (l : List Vec4) (part1 : Vec4) (j : Nat) (b : Search) (hb : P b) :
    P (enumerate4Middle metric xsum part0 it i l part1 j b) := by
  induction l generalizing part1 j b with
  | nil => exact enumerate4Inner_keeps hP _ _ _ _ _ _ _ _ _ _ hb
  | cons x xs ih => exact ih _ _ _ (enumerate4Inner_keeps hP _ _ _ _ _ _ _ _ _ _ hb)

theorem enumerate4From_keeps {it : Nat} {P : Search → Prop} (hP : KeptByTests it P) (metric xsum : Vec4)
    (l : List Vec4) (part0 : Vec4) (i : Nat) (b : Search) (hb : P b) :
    P (enumerate4From metric xsum it l part0 i b) := by
  induction l generalizing part0 i b with
  | nil => exact hb
  | cons x xs ih => exact ih _ _ _ (enumerate4Middle_keeps hP _ _ _ _ _ _ _ _ hb)

/-- What every test of a partition keeps, the whole search of one ordering keeps. -/
theorem enumerate_keeps {it : Nat} {P : Search → Prop} (hP : KeptByTests it P) (size : CodebookSize) (metric : Vec4)
    (pw : List Vec4) (b : Search) (hb : P b) : P (enumerate size metric it pw b) := by
  cases size <;> cases pw with
  | nil => exact hb
  | cons x xs =>
    first
    | exact enumerate3From_keeps hP _ _ _ _ _ _ (enumerate3Inner_keeps hP _ _ _ _ _ _ _ _ hb)
    | exact enumerate4From_keeps hP _ _ _ _ _ _ (enumerate4Middle_keeps hP _ _ _ _ _ _ _ _
        (enumerate4Inner_keeps hP _ _ _ _ _ _ _ _ _ _ hb))

/-- The best partition after an iteration is of this iteration or of the one it was of. -/
theorem enumerate_it (size : CodebookSize) (metric : Vec4) (it : Nat) (pw : List Vec4) (b : Search) :
    (enumerate size metric it pw b).it = b.it ∨ (enumerate size metric it pw b).it = it := by
  refine enumerate_keeps (P := fun q => q.it = b.it ∨ q.it = it) ?_ size metric pw b (.inl rfl)
  intro q r i j k hq
  rcases consider_cases q r i j k it with h | ⟨-, h⟩
  · rw [h]; exact hq
  · rw [h]; exact .inr rfl

/-! ### orderings and the iteration loop (R261, R270) -/

/-- A byte of the history after an ordering is stored: a point index, or what it was. -/
theorem storeOrdering_lt {o : Vector Byte 128} {it : Nat} {ks : List Nat} {B : Nat} (hB : B ≤ 256) (hks : ∀ k ∈ ks, k < B)
    (ho : ∀ n : Fin 128, (o[n]).toNat < B) (n : Fin 128) : ((storeOrdering o it ks)[n]).toNat < B := by
  simp only [storeOrdering, Fin.getElem_fin, Vector.getElem_ofFn]
  split
  · next h =>
    have hk := hks _ (List.getElem_mem h.2)
    rw [List.getD_eq_getElem?_getD, List.getElem?_eq_getElem h.2]
    simp only [Option.getD_some, BitVec.toNat_ofNat]
    omega
  · exact ho n

theorem insertRanked_perm (x : Ranked) (l : List Ranked) : (insertRanked x l).Perm (x :: l) := by
  induction l with
  | nil => exact .refl _
  | cons y ys ih =>
    unfold insertRanked
    split
    · exact (ih.cons y).trans (.swap x y ys)
    · exact .refl _

/-- The sort along an axis permutes the ranked points. -/
theorem sortAlong_perm (axis : Vec3) (pts : List (Vec3 × F32)) :
    (sortAlong axis pts).Perm (pts.zipIdx.map fun e => Ranked.mk (e.1.1.dot axis) e.2 e.1.1 e.1.2) := by
  have key (l acc : List Ranked) : (l.foldl (fun acc x => insertRanked x acc) acc).Perm (l ++ acc) := by
    induction l generalizing acc with
    | nil => exact .refl _
    | cons x xs ih =>
      exact (ih _).trans (((insertRanked_perm x acc).append_left xs).trans List.perm_middle)
  exact (List.reverse_perm _).trans (by simpa using key _ [])

/-- Every index of a sorted list is the index of a point. -/
theorem sortAlong_k_lt {axis : Vec3} {pts : List (Vec3 × F32)} {r : Ranked} (h : r ∈ sortAlong axis pts) :
    r.k < pts.length := by
  have := (sortAlong_perm axis pts).mem_iff.mp h
  simp only [List.mem_map, Prod.exists] at this
  obtain ⟨p, w, k, hk, rfl⟩ := this
  exact (List.mem_zipIdx hk).2.1.trans_eq (by simp)

/-- The history after an ordering is constructed holds indices below `B` if it did and no more than `B` points exist. -/
theorem constructOrdering_order_lt {pts : List (Vec3 × F32)} {o : Vector Byte 128} {axis : Vec3} {it B : Nat} (hB : B ≤ 256)
    (hl : pts.length ≤ B) (ho : ∀ n : Fin 128, (o[n]).toNat < B) (n : Fin 128) :
    (((constructOrdering pts o axis it).order)[n]).toNat < B := by
  refine storeOrdering_lt hB ?_ ho n
  intro k hk
  obtain ⟨r, hr, rfl⟩ := List.mem_map.mp hk
  exact (sortAlong_k_lt hr).trans_le hl

/-- The iteration loop (R270): what it keeps. `tried` counts the orderings, the best iteration is one of those tried, and the
history keeps its bound. -/
theorem searchLoop_spec (size : CodebookSize) (metric : Vec4) (pts : List (Vec3 × F32)) (limit B : Nat) (hB : B ≤ 256)
    (hl : pts.length ≤ B) (fuel it tried : Nat) (pw : List Vec4) (o : Vector Byte 128) (b : Search)
    (hfuel : fuel + it = limit) (htried : tried = it + 1) (hit : it < limit) (hb : b.it ≤ it)
    (ho : ∀ n : Fin 128, (o[n]).toNat < B) (r : SearchResult)
    (hr : r = searchLoop size metric pts limit fuel it tried pw o b) :
    1 ≤ r.tried ∧ r.tried ≤ limit ∧ r.best.it < limit ∧ r.best.it < r.tried ∧ ∀ n : Fin 128, (r.order[n]).toNat < B := by
  induction fuel generalizing it tried pw o b with
  | zero => omega
  | succ fuel ih =>
    have hb' : (enumerate size metric it pw b).it ≤ it := by
      rcases enumerate_it size metric it pw b with h | h <;> omega
    unfold searchLoop at hr
    simp only at hr
    split at hr
    · subst hr; exact ⟨by simp only; omega, by simp only; omega, by simp only; omega, by simp only; omega, ho⟩
    · split at hr
      · subst hr; exact ⟨by simp only; omega, by simp only; omega, by simp only; omega, by simp only; omega, ho⟩
      · split at hr
        · refine ih (it + 1) (tried + 1) _ _ _ (by omega) (by omega) (by omega) (by omega) ?_ hr
          exact constructOrdering_order_lt hB hl ho
        · subst hr
          exact ⟨by simp only; omega, by simp only; omega, by simp only; omega, by simp only; omega,
            constructOrdering_order_lt hB hl ho⟩

/-- At most 16 points are used. -/
theorem used_length_le (ps : PointSet) : ps.used.length ≤ 16 := by
  unfold PointSet.used
  rw [List.length_take]
  exact (Nat.min_le_right _ _).trans (by simp)

/-- What `ClusterSearch` leaves (R270, R272). -/
theorem clusterSearch_spec (size : CodebookSize) (f : BitVec 9) (pts : List (Vec3 × F32)) (axis : Vec3) (o : Vector Byte 128)
    (best : F32) (B : Nat) (hB : B ≤ 256) (hl : pts.length ≤ B) (ho : ∀ n : Fin 128, (o[n]).toNat < B) :
    1 ≤ (clusterSearch size f pts axis o best).tried ∧ (clusterSearch size f pts axis o best).tried ≤ iterCount f ∧
    (clusterSearch size f pts axis o best).best.it < iterCount f ∧
    ∀ n : Fin 128, ((clusterSearch size f pts axis o best).order[n]).toNat < B := by
  have hpos : 0 < iterCount f := by unfold iterCount; split <;> decide
  have h := searchLoop_spec size (metric4 f) pts (iterCount f) B hB hl (iterCount f) 0 1
    (constructOrdering pts o axis 0).pw (constructOrdering pts o axis 0).order
    ⟨Vec4.splat best, zero4, zero4, 0, 0, 0, 0⟩ (by omega) rfl hpos (Nat.le_refl 0)
    (constructOrdering_order_lt hB hl ho) _ rfl
  exact ⟨h.1, h.2.1, h.2.2.1, h.2.2.2.2⟩

end Sys2Proof.Machine
end

