-- ==== Sys2Proof/Laws/Float.lean ====
section
/-! SUPPORT. The ordered comparison of binary32 values (R152) and of splatted vectors (R155). -/

namespace Sys2Proof

/-- The ordered comparison: both operands are no NaN, and their order keys compare. -/
theorem F32.lt_iff {x y : F32} : x.lt y = true ↔ x.isNaN = false ∧ y.isNaN = false ∧ x.key < y.key := by
  simp [F32.lt, and_assoc]

theorem F32.lt_irrefl (x : F32) : x.lt x = false := by simp [F32.lt]

theorem F32.lt_trans {x y z : F32} (h1 : x.lt y = true) (h2 : y.lt z = true) : x.lt z = true := by
  rw [F32.lt_iff] at *
  exact ⟨h1.1, h2.2.1, h1.2.2.trans h2.2.2⟩

theorem F32.lt_asymm {x y : F32} (h : x.lt y = true) : y.lt x = false := by
  by_contra h'
  rw [Bool.not_eq_false] at h'
  exact Bool.false_ne_true ((F32.lt_irrefl x).symm.trans (F32.lt_trans h h'))

/-- What is not below `y` is not below anything below `y`. -/
theorem F32.not_lt_of_lt {x y z : F32} (h : x.lt y = false) (hz : z.lt y = true) : x.lt z = false := by
  by_contra h'
  rw [Bool.not_eq_false] at h'
  exact Bool.false_ne_true (h.symm.trans (F32.lt_trans h' hz))

/-- The running best of a strict comparison is never above what it was compared with. -/
theorem F32.select_not_above (b e : F32) : e.lt (if e.lt b then e else b) = false := by
  cases h : e.lt b
  · simpa using h
  · simpa using F32.lt_irrefl e

/-- On splatted vectors the any-lane comparison is the scalar one. -/
theorem Vec4.compareAnyLessThan_splat (x y : F32) : (Vec4.splat x).compareAnyLessThan (Vec4.splat y) = x.lt y := by
  simp [Vec4.compareAnyLessThan, Vec4.splat]

/-- The lane-wise selections and the clamp, lane by lane (R152, R154, R157). -/
@[simp] theorem Vec3.min_lanes (u v : Vec3) : u.min v = ⟨u.x.min v.x, u.y.min v.y, u.z.min v.z⟩ := rfl
@[simp] theorem Vec3.max_lanes (u v : Vec3) : u.max v = ⟨u.x.max v.x, u.y.max v.y, u.z.max v.z⟩ := rfl

/-- `FloatToInt` never passes its limit (R159). -/
theorem floatToInt_le (x : F32) (limit : Nat) : floatToInt x limit ≤ limit := by
  unfold floatToInt
  simp only
  split
  · split
    · exact Nat.zero_le _
    · exact Nat.min_le_right _ _
  · split
    · exact Nat.min_le_right _ _
    · split
      · exact Nat.le_refl _
      · exact Nat.zero_le _

/-- A product that overflowed is clamped by its sign (R330, R331). -/
theorem floatToInt_inf (neg : Bool) (limit : Nat) : floatToInt (F32.inf neg) limit = if neg then 0 else limit := by
  cases neg <;> rfl

/-- The finite test reads the exponent field. -/
theorem F32.isFinite_eq_finiteBits (x : F32) : x.isFinite = Machine.finiteBits x := by
  have hb : (x.bits.extractLsb' 23 8 != 0xFF#8) = decide (x.bits.toNat / 0x800000 % 256 ≠ 255) := by
    rw [bne, Bool.eq_iff_iff]
    simp [← BitVec.toNat_inj, Nat.shiftRight_eq_div_pow]
  rw [Machine.finiteBits, hb]
  simp only [F32.isFinite, F32.unpack]
  by_cases h : x.bits.toNat / 0x800000 % 256 = 255
  · by_cases hf : x.bits.toNat % 0x800000 = 0 <;> simp [h, hf]
  · by_cases h0 : x.bits.toNat / 0x800000 % 256 = 0
    · simp [h0]
    · simp [h, h0]

namespace Machine

/-- The error of a solved partition has four equal lanes (R264). -/
theorem solve_err_splat (metric alphax betax alphabeta : Vec4) :
    (solve metric alphax betax alphabeta).err = Vec4.splat (solve metric alphax betax alphabeta).err.x := rfl

/-- The endpoint check of the pack commands is the test of the six exponent fields (R331). -/
theorem endpointsFinite_eq (r : FitResult) : r.endpointsFinite = r.lanesFinite := by
  simp only [FitResult.endpointsFinite, FitResult.lanesFinite, Vec3.isFinite, F32.isFinite_eq_finiteBits, Bool.and_assoc]

end Machine

end Sys2Proof
end

