-- ==== Sys2Proof/Laws/PerInstr.lean ====
section
/-! SUPPORT. Statements about every command as syntax, one lemma per constructor. -/

namespace Sys2Proof.Laws.RoundTrip

/-- The command word of a well-formed command is a listed word with RSV = 0, and decodes to that command (R100, R101). -/
def Statement (i : Instr) : Prop :=
  i.wellFormed = true → (CommandWord.ofWord (encode i)).wellFormed = true ∧ decode (encode i) = .ok i

theorem nop : Statement .nop := fun _ => ⟨by decide, rfl⟩
theorem compress : Statement .compress := fun _ => ⟨by decide, rfl⟩
theorem compressMasked : Statement .compressMasked := fun _ => ⟨by decide, rfl⟩
theorem decompress : Statement .decompress := fun _ => ⟨by decide, rfl⟩
theorem clear : Statement .clear := fun _ => ⟨by decide, rfl⟩
theorem psBuild : Statement .psBuild := fun _ => ⟨by decide, rfl⟩
theorem fitAuto : Statement .fitAuto := fun _ => ⟨by decide, rfl⟩
theorem fitSingle : Statement .fitSingle := fun _ => ⟨by decide, rfl⟩
theorem fitRange : Statement .fitRange := fun _ => ⟨by decide, rfl⟩
theorem fitCluster : Statement .fitCluster := fun _ => ⟨by decide, rfl⟩
theorem pack3 : Statement .pack3 := fun _ => ⟨by decide, rfl⟩
theorem pack4 : Statement .pack4 := fun _ => ⟨by decide, rfl⟩
theorem colourDec : Statement .colourDec := fun _ => ⟨by decide, rfl⟩
theorem alpha3Enc : Statement .alpha3Enc := fun _ => ⟨by decide, rfl⟩
theorem alpha3Dec : Statement .alpha3Dec := fun _ => ⟨by decide, rfl⟩
theorem alpha5Enc : Statement .alpha5Enc := fun _ => ⟨by decide, rfl⟩
theorem alpha5Dec : Statement .alpha5Dec := fun _ => ⟨by decide, rfl⟩

end Sys2Proof.Laws.RoundTrip
end

