-- ==== Sys2Proof/Laws/PointSet.lean ====
section
/-! SUPPORT. The point-set builder (R190): what its loop keeps, and the file it leaves. -/

namespace Sys2Proof.Machine

/-- What the builder's loop keeps with `left` slots still to come. -/
structure BuildInv (left : Nat) (a : BuildAcc) : Prop where
  count : a.count + left ≤ 16
  remap : ∀ i k : Fin 16, a.remap[i] = some k → k.val < a.count
  point : ∀ k : Fin 16, k.val < a.count → ∃ t : Word, a.point[k] = normalise8 t
  unused : ∀ k : Fin 16, a.count ≤ k.val → a.point[k] = zeroVec3 ∧ a.weight[k] = F32.zero

theorem BuildInv.drop {left : Nat} {a : BuildAcc} (h : BuildInv (left + 1) a) : BuildInv left a :=
  ⟨by have := h.count; omega, h.remap, h.point, h.unused⟩

theorem BuildInv.setNone {left : Nat} {a : BuildAcc} (h : BuildInv left a) (i : Fin 16) (tr : Bool) :
    BuildInv left { a with remap := a.remap.set i none, transparent := tr } := by
  refine ⟨h.count, ?_, h.point, h.unused⟩
  intro j k hj
  simp only [Fin.getElem_fin, Vector.getElem_set] at hj
  split at hj
  · cases hj
  · exact h.remap j k hj

theorem BuildInv.addPoint {left : Nat} {a : BuildAcc} (h : BuildInv (left + 1) a) (i : Fin 16) (t : Word) (w : F32) :
    BuildInv left (a.addPoint i (normalise8 t) w) := by
  have hc := h.count
  have hlt : a.count < 16 := by omega
  have hk : (Fin.ofNat 16 a.count).val = a.count := Nat.mod_eq_of_lt hlt
  refine ⟨by simp only [BuildAcc.addPoint]; omega, ?_, ?_, ?_⟩
  · intro j k hj
    simp only [BuildAcc.addPoint, Fin.getElem_fin, Vector.getElem_set] at hj ⊢
    split at hj
    · cases hj; omega
    · have := h.remap j k hj; omega
  · intro k hk'
    simp only [BuildAcc.addPoint, Fin.getElem_fin, Vector.getElem_setIfInBounds] at hk' ⊢
    split
    · exact ⟨t, rfl⟩
    · exact h.point k (by omega)
  · intro k hk'
    simp only [BuildAcc.addPoint] at hk'
    have hne : a.count ≠ k.val := by omega
    simp only [BuildAcc.addPoint, Fin.getElem_fin, Vector.getElem_setIfInBounds, hne, if_false]
    exact h.unused k (by omega)

theorem BuildInv.mergeInto {left : Nat} {a : BuildAcc} (h : BuildInv left a) (i k : Fin 16) (w : F32) (hk : k.val < a.count) :
    BuildInv left (a.mergeInto i k w) := by
  refine ⟨h.count, ?_, h.point, ?_⟩
  · intro j l hj
    simp only [BuildAcc.mergeInto, Fin.getElem_fin, Vector.getElem_set] at hj ⊢
    split at hj
    · cases hj; exact hk
    · exact h.remap j l hj
  · intro l hl
    simp only [BuildAcc.mergeInto] at hl
    have hne : k.val ≠ l.val := by omega
    simp only [BuildAcc.mergeInto, Fin.getElem_fin, Vector.getElem_set, hne, if_false]
    exact h.unused l hl

theorem BuildInv.slot {left : Nat} {a : BuildAcc} (h : BuildInv (left + 1) a) (T : Vector Word 16) (m : BitVec 16)
    (f : BitVec 9) (i : Fin 16) : BuildInv left (buildSlot T m f a i) := by
  unfold buildSlot
  split
  · exact (h.drop.setNone i a.transparent)
  · split
    · exact h.drop.setNone i true
    · split
      · exact h.addPoint i _ _
      · next j _ =>
        split
        · next k hk => exact h.drop.mergeInto i k _ (h.remap j k hk)
        · exact h.drop

theorem BuildInv.foldl (T : Vector Word 16) (m : BitVec 16) (f : BitVec 9) (l : List (Fin 16)) (a : BuildAcc)
    (h : BuildInv l.length a) : BuildInv 0 (l.foldl (buildSlot T m f) a) := by
  induction l generalizing a with
  | nil => exact h
  | cons i is ih => exact ih _ (h.slot T m f i)

theorem BuildInv.start : BuildInv 16 BuildAcc.start := by
  refine ⟨Nat.le_refl 16, ?_, ?_, ?_⟩
  · intro i k hk; simp [BuildAcc.start] at hk
  · intro k hk; simp [BuildAcc.start] at hk
  · intro k _; simp [BuildAcc.start]

/-- The builder's loop over all slots keeps its invariant. -/
theorem buildAll_inv (T : Vector Word 16) (m : BitVec 16) (f : BitVec 9) : BuildInv 0 (buildAll T m f) :=
  BuildInv.foldl T m f slots _ BuildInv.start

/-- What the builder leaves (R190, R197): the bounds of the file's fields. -/
theorem buildPointSet_bounds (T : Vector Word 16) (m : BitVec 16) (f : BitVec 9) (ps : PointSet)
    (hps : ps = buildPointSet T m f) :
    ps.valid = true ∧ ps.cfg = f ∧ ps.count ≤ 16 ∧
    (∀ i k : Fin 16, ps.remap[i] = some k → k.val < ps.count) ∧
    (∀ k : Fin 16, k.val < ps.count → ∃ t : Word, ps.point[k] = normalise8 t) ∧
    (∀ k : Fin 16, ps.count ≤ k.val → ps.point[k] = zeroVec3 ∧ ps.weight[k] = F32.zero) := by
  have h := buildAll_inv T m f
  subst hps
  refine ⟨rfl, rfl, h.count, h.remap, ?_, ?_⟩
  · intro k hk
    have hk' : k.val < (buildAll T m f).count := hk
    obtain ⟨t, ht⟩ := h.point k hk'
    exact ⟨t, by simpa [buildPointSet, BuildAcc.finish, hk'] using ht⟩
  · intro k hk
    have hk' : ¬ k.val < (buildAll T m f).count := Nat.not_lt.mpr hk
    simp [buildPointSet, BuildAcc.finish, hk']

/-- The merge test reads no masked-out slot: it is the same for two tiles that agree on the valid slots (R198). -/
theorem mergeSlot_congr {T U : Vector Word 16} {m : BitVec 16} (h : ∀ k : Fin 16, slotValid m k = true → U[k] = T[k])
    (dxt1 : Bool) (i : Fin 16) (hi : slotValid m i = true) : mergeSlot U m dxt1 i = mergeSlot T m dxt1 i := by
  unfold mergeSlot
  congr 1
  funext j
  cases hj : slotValid m j
  · simp [mergeable, hj]
  · simp only [h j hj, h i hi]

/-- One slot of the builder reads no masked-out slot (R198). -/
theorem buildSlot_congr {T U : Vector Word 16} {m : BitVec 16} (h : ∀ k : Fin 16, slotValid m k = true → U[k] = T[k])
    (f : BitVec 9) (a : BuildAcc) (i : Fin 16) : buildSlot U m f a i = buildSlot T m f a i := by
  unfold buildSlot
  cases hi : slotValid m i
  · simp
  · simp only [h i hi, mergeSlot_congr h _ i hi]

/-- The builder's result does not depend on masked-out slots (R198). -/
theorem buildPointSet_congr {T U : Vector Word 16} {m : BitVec 16} (h : ∀ k : Fin 16, slotValid m k = true → U[k] = T[k])
    (f : BitVec 9) : buildPointSet U m f = buildPointSet T m f := by
  have : buildSlot U m f = buildSlot T m f := by
    funext a i; exact buildSlot_congr h f a i
  unfold buildPointSet buildAll
  rw [this]

end Sys2Proof.Machine
end

