-- ==== Sys2Proof/Tests/Slice0.lean ====
section
/-! SUPPORT. The model's own tests, with expected values from the spec's rules and `95_test_vectors.md`: the well-formedness
smoke, one written-out word per command, at most two one-step tests per command, the register port, the host duties; and a
witness for the hypotheses of every statement that has some. -/

namespace Sys2Proof.Tests

open Sys2Proof Sys2Proof.Machine

/-- A state after reset but for CFG, MASK and the first texels. -/
def tileState (cfg : BitVec 9) (mask : BitVec 16) (t : List Word) : State :=
  { State.reset with cfg := cfg, mask := mask, texel := Vector.ofFn fun i => t.getD i.val 0#32 }

/-- A state after reset but for CFG and BLOCK. -/
def blockState (cfg : BitVec 9) (b : Vector Word 4) : State := { State.reset with cfg := cfg, block := b }

/-- A tile whose texels are black but for their alphas. -/
def alphaState (mask : BitVec 16) (a : Fin 16 → Nat) : State :=
  { State.reset with mask := mask, texel := Vector.ofFn fun i => BitVec.ofNat 32 (a i * 16777216) }

/-- A state after reset but for a valid point set of the given size over +0.0 points, under the flags `f`. -/
def setState (f : BitVec 9) (count : Nat) : State :=
  { State.reset with ps := { PointSet.reset with valid := true, count := count, cfg := f } }

/-- The state a command answers (the state itself if it stops). -/
def after (i : Instr) (s : State) : State :=
  match exec i s with
  | .next t => t
  | .fault _ => s
  | .refused _ => s

/-- The block buffer as four numbers. -/
def blockOf (s : State) : List Nat := s.block.toList.map BitVec.toNat

/-- The A lanes. -/
def alphasOf (s : State) : List Nat := s.texel.toList.map fun t => (texelA t).toNat

/-! ### Well-formedness: what each check refuses (R102, R103) -/

theorem test_rsv_refused : CommandWord.rsvClear ⟨0x00#8, 0x000001#24⟩ = false := by decide
theorem test_rsv_top_refused : CommandWord.wellFormed ⟨0x01#8, 0x800000#24⟩ = false := by decide
theorem test_op_ranges_refused :
    [0x05#8, 0x0F#8, 0x11#8, 0x1F#8, 0x24#8, 0x2F#8, 0x33#8, 0x3F#8, 0x44#8, 0xFF#8].all
      (fun op => !CommandWord.opListed ⟨op, 0#24⟩) = true := by decide
theorem test_commands_well_formed :
    [0x00#8, 0x04#8, 0x10#8, 0x20#8, 0x23#8, 0x30#8, 0x32#8, 0x40#8, 0x43#8].all
      (fun op => CommandWord.wellFormed ⟨op, 0#24⟩) = true := by decide
theorem test_decode_reserved_first : decode 0x00000105#32 = .error .reserved := by decide
theorem test_decode_illegal : decode 0x00000005#32 = .error .illegalOp := by decide

/-! ### Decoding: each word written out from R100 and R101 (RSV in bits 31..8, OP in bits 7..0) -/

theorem test_word_nop : decode 0b000000000000000000000000_00000000#32 = .ok .nop := by decide
theorem test_word_compress : decode 0b000000000000000000000000_00000001#32 = .ok .compress := by decide
theorem test_word_compress_masked : decode 0b000000000000000000000000_00000010#32 = .ok .compressMasked := by decide
theorem test_word_decompress : decode 0b000000000000000000000000_00000011#32 = .ok .decompress := by decide
theorem test_word_clear : decode 0b000000000000000000000000_00000100#32 = .ok .clear := by decide
theorem test_word_ps_build : decode 0b000000000000000000000000_00010000#32 = .ok .psBuild := by decide
theorem test_word_fit_auto : decode 0b000000000000000000000000_00100000#32 = .ok .fitAuto := by decide
theorem test_word_fit_single : decode 0b000000000000000000000000_00100001#32 = .ok .fitSingle := by decide
theorem test_word_fit_range : decode 0b000000000000000000000000_00100010#32 = .ok .fitRange := by decide
theorem test_word_fit_cluster : decode 0b000000000000000000000000_00100011#32 = .ok .fitCluster := by decide
theorem test_word_pack3 : decode 0b000000000000000000000000_00110000#32 = .ok .pack3 := by decide
theorem test_word_pack4 : decode 0b000000000000000000000000_00110001#32 = .ok .pack4 := by decide
theorem test_word_colour_dec : decode 0b000000000000000000000000_00110010#32 = .ok .colourDec := by decide
theorem test_word_alpha3_enc : decode 0b000000000000000000000000_01000000#32 = .ok .alpha3Enc := by decide
theorem test_word_alpha3_dec : decode 0b000000000000000000000000_01000001#32 = .ok .alpha3Dec := by decide
theorem test_word_alpha5_enc : decode 0b000000000000000000000000_01000010#32 = .ok .alpha5Enc := by decide
theorem test_word_alpha5_dec : decode 0b000000000000000000000000_01000011#32 = .ok .alpha5Dec := by decide
theorem test_table_word_runs :
    (match step (State.reset.withFetchWord 32 0x00000000) with | .next t => t.status | _ => 0#32) = 0x00000002#32 := by
  decide

/-! ### Commands, one step each -/

/-- R410: NOP on a reset core leaves STATUS = 2. -/
theorem test_nop : (after .nop State.reset).status = 0x00000002#32 := by decide

/-- R414: CLEAR drops the point set; 95 §8: it keeps ERR and ECODE. -/
theorem test_clear : (after .clear { setState 0x029#9 3 with err := true, ecode := 7#4 }).ps = PointSet.reset ∧
    (after .clear { setState 0x029#9 3 with err := true, ecode := 7#4 }).ecode = 7#4 := by decide

/-- R201, first row (BC1 and WBA): the weight is `fsqrt(13.0)`, the transparent slots are INVALID. -/
theorem test_ps_build_bc1 :
    (after .psBuild (tileState 0x0A9#9 0xFFFF#16
      ([0xFF1E140A#32, 0x7F1E140A#32, 0x001E140A#32, 0x403264C8#32] ++ List.replicate 12 0xFF1E140A#32))).psInfo =
      0x00A90301#32 := by decide +kernel

/-- R201, second row (BC3 and WBA): the second weight is `fsqrt(65/256)`. -/
theorem test_ps_build_bc3 :
    ((after .psBuild (tileState 0x084#9 0xFFFF#16
      ([0xFF1E140A#32, 0x7F1E140A#32, 0x001E140A#32, 0x403264C8#32] ++ List.replicate 12 0xFF1E140A#32))).ps.weight[1]).bits =
      0x3F00FF02#32 := by decide +kernel

/-- R453: FIT_SINGLE reports a missing point set before its size. -/
theorem test_fit_single_no_ps : (after .fitSingle State.reset).ecode = 4#4 := by decide

/-- R313, first row, in BC3: one red point gives the colour bytes `00 F8 00 F8 00 00 00 00` and error 0. -/
theorem test_fit_single_red :
    let s := after .fitSingle { setState 0x02C#9 1 with
      ps := { (setState 0x02C#9 1).ps with
        point := Vector.ofFn fun _ => ⟨F32.one, F32.zero, F32.zero⟩
        remap := Vector.replicate 16 (some 0) } }
    blockOf s = [0, 0, 0xF800F800, 0] ∧ s.besterrI = 0#32 := by decide +kernel

/-- R235, corner case n = 0, in BC1. -/
theorem test_fit_range_empty : blockOf (after .fitRange (setState 0x039#9 0)) = [0, 0xFFFFFFFF, 0, 0] := by decide +kernel

/-- R280, corner case n = 0: nothing is written, BESTERR is FLT_MAX, one ordering is tried. -/
theorem test_fit_cluster_empty :
    (after .fitCluster (setState 0x029#9 0)).besterr = ⟨0x7F7FFFFF#32⟩ ∧
    (after .fitCluster (setState 0x029#9 0)).fitInfo = 0x00000013#32 := by decide +kernel

/-- The point set of the tile of 8 black and 8 white texels under CFG = 0 (R415's example). -/
def blackWhite : State :=
  after .psBuild (tileState 0x000#9 0xFFFF#16 (List.replicate 8 0xFF000000#32 ++ List.replicate 8 0xFFFFFFFF#32))

/-- R415's example: the cluster fit's block is `00 00 FF FF 00 00 55 55`. It is a valid candidate of iteration 0 whose
endpoints are finite, so it also meets the inner hypotheses of the statements about cluster candidates. -/
theorem test_fit_cluster_black_white :
    (fun t : State => (blockOf t, t.fit.valid, t.fit.lanesFinite, t.bestIter)) (after .fitCluster blackWhite) =
      ([0xFFFF0000, 0x55550000, 0, 0], true, true, 0) := by decide +kernel

/-- R415: an empty set goes to the range fit. -/
theorem test_fit_auto_empty : (after .fitAuto (setState 0x029#9 0)).fit.kind = .range := by decide +kernel

/-- The registers of R340's example. -/
def packState : State :=
  { State.reset with
    fit := { FitResult.reset with
      start := ⟨F32.one, F32.zero, F32.zero⟩, stop := ⟨F32.zero, F32.zero, F32.one⟩, idx := unpackIdx 0xE4E4E4E4#32 } }

theorem test_pack3 : blockOf (after .pack3 packState) = [0xF800001F, 0xE1E1E1E1, 0, 0] := by decide +kernel
theorem test_pack4 : blockOf (after .pack4 packState) = [0x001FF800, 0xE4E4E4E4, 0, 0] := by decide +kernel
theorem test_pack4_equal :
    blockOf (after .pack4 { packState with fit := { packState.fit with start := packState.fit.stop } }) =
      [0x001F001F, 0, 0, 0] := by decide +kernel

/-- R331: a NaN lane raises E_OPERAND and writes nothing. -/
theorem test_pack3_nan :
    (after .pack3 { packState with fit := { packState.fit with start := ⟨⟨0x7FC00000#32⟩, F32.zero, F32.zero⟩ } }).ecode =
      8#4 := by decide +kernel

/-- R345: the example block. -/
theorem test_colour_dec :
    ((after .colourDec (blockState 0x000#9 #v[0xFFFF0000#32, 0xE4E4E4E4#32, 0#32, 0#32])).texel.toList.take 4) =
      [0xFF000000#32, 0xFFFFFFFF#32, 0xFF7F7F7F#32, 0x00000000#32] := by decide +kernel

/-- R375: alphas `17 i` give `10 32 54 76 98 BA DC FE`. -/
theorem test_alpha3_enc :
    blockOf (after .alpha3Enc (alphaState 0xFFFF#16 fun i => 17 * i.val)) = [0x76543210, 0xFEDCBA98, 0, 0] := by
  decide +kernel

/-- 95 §7.1: masked-out slots encode as 0. -/
theorem test_alpha3_enc_masked :
    blockOf (after .alpha3Enc (alphaState 0x00FF#16 fun _ => 255)) = [0xFFFFFFFF, 0, 0, 0] := by decide +kernel

/-- R376: the example bytes. -/
theorem test_alpha3_dec :
    alphasOf (after .alpha3Dec (blockState 0x000#9 #v[0x65544332#32, 0x99888776#32, 0#32, 0#32])) =
      [34, 51, 51, 68, 68, 85, 85, 102, 102, 119, 119, 136, 136, 136, 153, 153] := by decide +kernel

/-- R390: alphas `40 + 8 i` take the 7-step scheme. -/
theorem test_alpha5_enc :
    let s := after .alpha5Enc (alphaState 0xFFFF#16 fun i => 40 + 8 * i.val)
    blockOf s = [0x6FC928A0, 0x0126E4B7, 0, 0] ∧ s.aerr5 = 640#32 ∧ s.aerr7 = 358#32 := by decide +kernel

/-- R397, second row: all 255, P_ALPHA_EMPTY5 at OTHER_RANGE. -/
theorem test_alpha5_enc_all255 :
    blockOf (after .alpha5Enc (alphaState 0xFFFF#16 fun _ => 255)) = [0x9249FFFA, 0x24924924, 0, 0] := by decide +kernel

/-- R395: the example bytes `00 FF 88 C6 FA 88 C6 FA`. -/
theorem test_alpha5_dec :
    alphasOf (after .alpha5Dec (blockState 0x000#9 #v[0xC688FF00#32, 0xFAC688FA#32, 0#32, 0#32])) =
      [0, 255, 51, 102, 153, 204, 0, 255, 0, 255, 51, 102, 153, 204, 0, 255] := by decide +kernel

/-- R482: COMPRESS straight after reset. -/
theorem test_compress_after_reset : blockOf (after .compress State.reset) = [0, 0xFFFFFFFF, 0, 0] := by decide +kernel

/-- R412: MASK = 0 in BC3. -/
theorem test_compress_masked_none :
    blockOf (after .compressMasked (tileState 0x004#9 0x0000#16 [])) = [0x00000500, 0, 0, 0] := by decide +kernel

/-- R413: the block of a fully transparent tile decodes to transparent black. -/
theorem test_decompress :
    (after .decompress (blockState 0x000#9 #v[0x00000000#32, 0xFFFFFFFF#32, 0#32, 0#32])).texel =
      Vector.replicate 16 0#32 := by decide +kernel

/-- R417, second row of the gradient tile's block in BC2: slots 0 and 15 of 95 §8. -/
theorem test_decompress_bc2 :
    let t := (after .decompress (blockState 0x002#9 #v[0x65544332#32, 0x99888776#32, 0x1F30D150#32, 0x00AAFF55#32])).texel
    t[0] = 0x2284E718#32 ∧ t[15] = 0x998428D6#32 := by decide +kernel

/-! ### The numeric datapath -/

/-- R191: 10/255. -/
theorem test_div : (F32.ofNat 10).div f255 = ⟨0x3D20A0A1#32⟩ := by decide +kernel
/-- 95 §2.1: the square root of 14. -/
theorem test_sqrt : (F32.ofNat 14).sqrt = ⟨0x406F7751#32⟩ := by decide +kernel
/-- R16: `sqrt3` is the square root of 3. -/
theorem test_sqrt3 : (F32.ofNat 3).sqrt = Config.libmDefault.sqrt3 := by decide +kernel
/-- R22: the constants that are nearest to a rational. -/
theorem test_constants : F32.ofRatio false 1 3 = third ∧ F32.ofRatio false 2 3 = twoThirds ∧
    F32.ofRatio false 1 31 = rcp31 ∧ F32.ofRatio false 1 63 = rcp63 ∧ F32.ofRatio false 15 255 = f15over255 ∧
    F32.ofRatio true 2 27 = minusTwo27ths ∧ F32.ofRatio false 1 27 = one27th ∧ F32.ofRatio false 1 9 = ninth ∧
    F32.ofRatio false 4 9 = fourNinths ∧ F32.ofRatio false 2 9 = twoNinths := by decide +kernel
/-- R13, R22: the perceptual weights. -/
theorem test_metric : perceptualMetric =
    ⟨F32.ofRatio false 2126 10000, F32.ofRatio false 7152 10000, F32.ofRatio false 722 10000⟩ := by decide +kernel
/-- R150: overflow, invalid operations, division by zero. -/
theorem test_special : F32.fltMax.add F32.fltMax = F32.inf false ∧ (F32.zero.div F32.zero).isNaN = true ∧
    (F32.zero.mul (F32.inf false)).isNaN = true ∧ ((F32.inf false).sub (F32.inf false)).isNaN = true ∧
    F32.one.neg.div F32.zero = F32.inf true := by decide +kernel
/-- R301: selected rows of the tables. -/
theorem test_scf_rows :
    scfLutDefault .five .three 3#8 = ⟨⟨0#6, 0#6, 3#8⟩, ⟨0#6, 1#6, 1#8⟩⟩ ∧
    scfLutDefault .five .four 4#8 = ⟨⟨0#6, 0#6, 4#8⟩, ⟨0#6, 2#6, 1#8⟩⟩ ∧
    scfLutDefault .six .three 3#8 = ⟨⟨1#6, 1#6, 1#8⟩, ⟨0#6, 1#6, 1#8⟩⟩ := by decide +kernel
/-- R330: the examples of `FloatTo565`. -/
theorem test_float_to_565 : floatTo565 ⟨F32.one, F32.half, F32.quarter⟩ = 0xFC08#16 ∧
    floatTo565 ⟨F32.two, F32.one.neg, ⟨0x3F7D70A4#32⟩⟩ = 0xF81F#16 := by decide +kernel
/-- R330, R331: finite lanes whose product with the channel maximum overflows are clamped, not free. -/
theorem test_float_to_565_overflow : floatTo565 ⟨F32.fltMax, F32.fltMax.neg, F32.fltMax⟩ = 0xF81F#16 ∧
    floatTo565 ⟨F32.fltMax.neg, F32.fltMax, F32.fltMax.neg⟩ = 0x07E0#16 := by decide +kernel
/-- R16: the arc tangent lies strictly below its small argument, also where that is a tie (`3·2⁻¹⁴⁹ / 2`, from the power
series). -/
theorem test_atan_tie : atan2fDefault ⟨0x00000003#32⟩ F32.two = ⟨0x00000001#32⟩ ∧
    atan2fDefault ⟨0x80000007#32⟩ F32.two = ⟨0x80000003#32⟩ := by decide +kernel

/-! ### The register port -/

/-- R481: ECFG after reset. -/
theorem test_read_ecfg : (State.reset.hostRead 0x010#12).rdata = 0x00000029#32 := by decide
/-- R75: a misaligned write. -/
theorem test_misaligned : (State.reset.hostWrite 0x041#12 5#32).status = 0x00000064#32 := by decide
/-- R76: an unmapped read, and a write to a read-only register. -/
theorem test_unmapped_ro : (State.reset.hostRead 0x0AC#12).status = 0x00000064#32 ∧
    (State.reset.hostWrite 0x100#12 5#32).status = 0x00000074#32 := by decide
/-- R103, R102: E_RESERVED before E_ILLEGAL_OP. -/
theorem test_cmd_errors : (State.reset.hostWrite 0x008#12 0x00000105#32).status = 0x00000024#32 ∧
    (State.reset.hostWrite 0x008#12 0x00000005#32).status = 0x00000014#32 := by decide
/-- R490: a second command while one is pending. -/
theorem test_busy_cmd : ((State.reset.accept 0x01#8).hostWrite 0x008#12 0#32).status = 0x00000135#32 := by decide
/-- R33: the last register of each array. -/
theorem test_offsets : regAt 0x07C#12 = some (.texel 15) ∧ regAt 0x08C#12 = some (.block 3) ∧
    regAt 0x0A4#12 = some (.fitEnd 2) ∧ regAt 0x1BC#12 = some (.psPoint 15 2) ∧
    regAt 0x1FC#12 = some (.psWeight 15) ∧ regAt 0x27C#12 = some (.order 31) ∧ regAt 0x280#12 = none := by decide

/-! ### Host duties (R430 to R434) -/

theorem test_tile_masks : tileMask 5 5 0 0 = 0xFFFF#16 ∧ tileMask 5 5 1 0 = 0x1111#16 ∧ tileMask 5 5 0 1 = 0x000F#16 ∧
    tileMask 5 5 1 1 = 0x0001#16 := by decide
theorem test_storage : storageRequirements 8 8 0x001#9 = 32 ∧ storageRequirements 5 5 0x001#9 = 32 ∧
    sizeMismatch 8 8 0x001#9 31 = true := by decide

/-! ### Witnesses: states and operands that meet the hypotheses of the statements -/

/-- No register lies at an offset the map does not list. -/
theorem no_register_at {n : Nat} (hn : n < 4096) (h : regAt (BitVec.ofNat 12 n) = none) (r : Reg) : regOffset r ≠ n := by
  intro hr
  subst hr
  rw [regAt_regOffset] at h
  cases h

theorem witness_writtenRegisterReadsBack :
    State.reset.busy = false ∧ [Reg.cfg, .mask, .texel 15, .block 3, .fitStart 2, .fitEnd 0, .fitIdx].all
      (fun r => !readOnly r && r != .cmd && r != .status) = true ∧
    State.reset.hostWrite 0x000#12 5#32 = State.reset.hostWrite (BitVec.ofNat 12 (regOffset .cfg)) 5#32 :=
  ⟨by decide, by decide, rfl⟩

theorem witness_commandAcceptance :
    State.reset.busy = false ∧ (0x00000100#32 : Word).extractLsb' 8 24 ≠ 0#24 ∧
    (0x00000005#32 : Word).extractLsb' 8 24 = 0#24 ∧ (∀ i : Instr, (0x00000005#32 : Word) ≠ encode i) ∧
    (0x00000043#32 : Word) = encode .alpha5Dec := by
  refine ⟨by decide, by decide, by decide, ?_, by decide⟩
  intro i
  cases i <;> decide

theorem witness_badAccesses :
    (0x001#12 : BitVec 12).toNat % 4 ≠ 0 ∧ (∀ r : Reg, regOffset r ≠ (0x02C#12 : BitVec 12).toNat) ∧
    (∀ r : Reg, regOffset r ≠ (0xFFC#12 : BitVec 12).toNat) ∧
    regOffset .ecfg = (0x010#12 : BitVec 12).toNat ∧ readOnly .ecfg = true :=
  ⟨by decide, no_register_at (by decide) (by decide), no_register_at (by decide) (by decide), by decide, by decide⟩

theorem witness_busyWritesRefused :
    (State.reset.accept 0x00#8).busy = true ∧ (0x000#12 : BitVec 12) ≠ 0x00C#12 ∧ regAt 0x001#12 = none ∧
    (regAt 0x010#12).any readOnly = true ∧ (regAt 0x008#12).any readOnly = false := by decide

theorem witness_readsHaveNoEffect :
    Reg.texel 0 ≠ .cmd ∧ State.reset.busy = false ∧ (State.reset.accept 0x00#8).busy = true ∧ Reg.texel 0 ≠ .status := by
  decide

theorem witness_statusViews :
    let s := { setState 0x029#9 16 with iters := 8, bestIter := 7 }
    s.ps.count ≤ 16 ∧ s.iters ≤ 8 ∧ s.bestIter ≤ 7 := by decide

theorem witness_ecfg : State.reset.busy = false := by decide

theorem witness_resetState :
    ({ State.reset with busy := true, events := [.reset] } : State).events = .reset :: [] := by decide

theorem witness_stepRunsPendingCommand :
    (State.reset.accept 0x43#8).events = [] ∧ (State.reset.accept 0x43#8).busy = true ∧
    (State.reset.accept 0x43#8).pending = (encode .alpha5Dec).extractLsb' 0 8 ∧
    ({ State.reset.accept 0x00#8 with events := [.coreStep] } : State).events = .coreStep :: [] ∧
    ({ State.reset with events := [.write 0x008#12 0x00000001#32] } : State).events = .write 0x008#12 0x00000001#32 :: [] ∧
    decode 0x00000001#32 = .ok .compress ∧ State.reset.events = [] ∧ State.reset.busy = false := by decide

theorem witness_errorIsSticky :
    let s := { State.reset with err := true, ecode := 6#4 }
    step s = .next s ∧ s.err = true ∧
    step { s with events := [.write 0x00C#12 0x00000004#32] } = .next { s with err := false, ecode := 0#4 } :=
  ⟨rfl, rfl, rfl⟩

/-- The state NOP leaves after reset. -/
def nopState : State := { State.reset with done := true }

/-- The state NOP leaves after reset meets the invariant. -/
theorem nopState_inv : nopState.Inv where
  ecodeClear := by decide
  ecodeLegal := by decide
  lastopPending := by decide
  pendingListed := by decide
  busyNotDone := by decide
  psCount := by decide
  psRemap := by decide
  psPoint := by intro k hk; exact absurd hk (Nat.not_lt_zero _)
  psUnused := by decide
  psCfg := by decide
  psInvalid := by decide
  iters := by decide
  bestIter := by decide
  order := by decide

theorem witness_invariantKept :
    nopState.Inv ∧ step nopState = .next nopState :=
  ⟨nopState_inv, rfl⟩

theorem witness_pendingOperandsStable :
    let accesses : List Event := [.write 0x040#12 7#32, .read 0x040#12, .write 0x00C#12 6#32]
    let s : State := { State.reset.accept 0x00#8 with events := accesses ++ [Event.coreStep] }
    (∀ e ∈ accesses, (∃ off v, e = .write off v) ∨ (∃ off, e = .read off)) ∧ s.busy = true ∧
    s.events = accesses ++ [.coreStep] := by
  refine ⟨?_, by decide, by decide⟩
  intro e he
  simp only [List.mem_cons, List.not_mem_nil, or_false] at he
  rcases he with rfl | rfl | rfl
  · exact .inl ⟨_, _, rfl⟩
  · exact .inr ⟨_, rfl⟩
  · exact .inl ⟨_, _, rfl⟩

theorem witness_runScriptCompletes :
    ({ State.reset with events := runScript .nop 2 } : State).busy = false ∧
    ({ State.reset with events := runScript .nop 2 } : State).events = runScript .nop 2 ++ [] := by decide

theorem witness_commandOutcome :
    stepError .fitRange State.reset = some .noPs ∧ stepError .fitSingle (setState 0x029#9 2) = some .count ∧
    stepError .fitSingle (setState 0x029#9 0) = some .count ∧ stepError .fitSingle (setState 0x029#9 1) = none ∧
    stepError .pack3 { State.reset with fit := { FitResult.reset with start := ⟨⟨0x7F800000#32⟩, F32.zero, F32.zero⟩ } } =
      some .operand ∧
    stepError .pack3 { State.reset with fit := { FitResult.reset with start := ⟨F32.fltMax, F32.zero, F32.zero⟩ } } = none ∧
    stepError .nop State.reset = none := by decide

theorem witness_commandFrame :
    exec .nop State.reset = .next nopState ∧ exec .clear State.reset = .next nopState ∧
    writesBlockByte .fitRange (setState 0x029#9 0) 8 = false ∧ writesBlockByte .fitRange (setState 0x02C#9 0) 7 = false ∧
    writesBlockByte .alpha3Enc State.reset 8 = false ∧ writesBlockByte .compress State.reset 8 = false ∧
    (∃ t, exec .alpha3Dec State.reset = .next t) :=
  ⟨rfl, rfl, by decide, by decide, by decide, by decide, exec_next _ _⟩

theorem witness_weightSumsExact : 1 ≤ 4095 ∧ 1 ≤ 1 ∧ 4095 + 1 ≤ 4096 := by decide

theorem witness_maskedSlots :
    let s := tileState 0x000#9 0x0001#16 [0xFF0000FF#32]
    let T : Vector Word 16 := s.texel.set 1 0x12345678#32
    Instr.psBuild ∈ [Instr.psBuild, .compressMasked, .alpha3Enc, .alpha5Enc] ∧
    (∀ k : Fin 16, slotValid s.mask k = true → T[k] = s.texel[k]) ∧ T ≠ s.texel ∧ ∃ t, exec .psBuild s = .next t :=
  ⟨by decide, by decide, by decide, exec_next _ _⟩

theorem witness_decompressIsPure :
    let s := blockState 0x002#9 #v[1#32, 2#32, 3#32, 4#32]
    let s' := { s with cfg := 0x00A#9, mask := 5#16 }
    normalise s'.cfg = normalise s.cfg ∧
    (∀ n : Fin 16, n.val < bytesPerBlock (normalise s.cfg) → s'.blockByte n = s.blockByte n) ∧
    (∃ t, exec .decompress s = .next t) ∧ ∃ t', exec .decompress s' = .next t' :=
  ⟨by decide, fun _ _ => rfl, exec_next _ _, exec_next _ _⟩

theorem witness_fitAutoDispatch :
    (setState 0x029#9 1).ps.valid = true ∧ (setState 0x029#9 1).ps.count = 1 ∧ (setState 0x029#9 0).ps.count = 0 ∧
    isRange (setState 0x031#9 2).ps.cfg = true ∧
    ({ (setState 0x029#9 2).ps with transparent := true }).transparent = true ∧ isBC1 (setState 0x029#9 2).ps.cfg = true ∧ isRange (setState 0x029#9 2).ps.cfg = false := by decide

/-- The range fit of an empty set, in BC1 and in BC3, writes a candidate with finite endpoints. -/
theorem witness_fit_empty :
    stepError .fitRange (setState 0x039#9 0) = none ∧ stepError .fitRange (setState 0x03C#9 0) = none ∧
    exec .fitRange (setState 0x03C#9 0) = .next (after .fitRange (setState 0x03C#9 0)) ∧
    (after .fitRange (setState 0x039#9 0)).fit.valid = true ∧ (after .fitRange (setState 0x03C#9 0)).fit.valid = true ∧
    (after .fitRange (setState 0x03C#9 0)).fit.lanesFinite = true ∧
    isBC1 (normalise ({ setState 0x03C#9 0 with cfg := 0x004#9 } : State).cfg) = isBC1 (setState 0x03C#9 0).ps.cfg ∧
    isBC1 (after .fitRange (setState 0x03C#9 0)).ps.cfg = false ∧
    (∀ i : Fin 16, (setState 0x03C#9 0).ps.remap[i] = none) := by
  obtain ⟨t, ht⟩ := exec_next .fitRange (setState 0x03C#9 0)
  refine ⟨by decide, by decide, ?_, by decide +kernel, by decide +kernel, by decide +kernel, by decide, by decide +kernel,
    by decide⟩
  simp only [after, ht]

theorem witness_fitSingleResult :
    let s := { setState 0x029#9 1 with
      ps := { (setState 0x029#9 1).ps with remap := (Vector.replicate 16 none).set 3 (some 0) } }
    s.ps.valid = true ∧ s.ps.count = 1 ∧ ∀ i k : Fin 16, s.ps.remap[i] = some k → k = 0 := by decide

theorem witness_singleColour :
    (after .psBuild (tileState 0x000#9 0x0001#16 [0xFF030201#32])).ps.count = 1 ∧
    exec .psBuild (tileState 0x000#9 0x0001#16 [0xFF030201#32]) =
      .next (after .psBuild (tileState 0x000#9 0x0001#16 [0xFF030201#32])) := by
  obtain ⟨t, ht⟩ := exec_next .psBuild (tileState 0x000#9 0x0001#16 [0xFF030201#32])
  exact ⟨by decide +kernel, by simp only [after, ht]⟩

theorem witness_fitResults :
    (setState 0x029#9 0).ps.valid = true ∧ (setState 0x029#9 0).ps.count = 0 ∧
    isIterative (setState 0x029#9 0).ps.cfg = false ∧ isIterative 0x121#9 = true ∧
    isBC1 0x121#9 = isBC1 (setState 0x029#9 0).ps.cfg ∧
    isPerceptual 0x121#9 = isPerceptual (setState 0x029#9 0).ps.cfg := by decide

/-- The two points of the black and white tile have the projections 0 and about 18 on the axis, so the first is the first of
least projection and the second the first of greatest. -/
theorem witness_rangeEndpoints :
    (blackWhite.ps.used.map fun p => p.1.dot (principalAxis Config.params.libm blackWhite.ps)) =
      [⟨0x00000000#32⟩, ⟨0x418FFFFF#32⟩] ∧
    F32.lt ⟨0x00000000#32⟩ ⟨0x418FFFFF#32⟩ = true := by decide +kernel

/-- The alphas of the ramp: 40 is the least and 160 the greatest, and some alpha is neither 0 nor 255; in the other mask every
valid alpha is 0; under the empty mask there is none. -/
theorem witness_alphaRanges :
    let T := (alphaState 0xFFFF#16 fun i => 40 + 8 * i.val).texel
    let A := validAlphas 0xFFFF#16 T
    ((40 ∈ A ∧ ∀ y ∈ A, 40 ≤ y) ∧ 160 ∈ A ∧ ∀ y ∈ A, y ≤ 160) ∧ (40 ∈ A.filter (· ≠ 0) ∧ 160 ∈ A.filter (· ≠ 255)) ∧
    (∃ v ∈ A, v ≠ 0 ∧ v ≠ 255) ∧ validAlphas 0x0001#16 (Vector.replicate 16 0#32) = [0] ∧
    validAlphas 0x0000#16 T = [] := by decide

theorem witness_rangeAssign : ∃ dist : Nat → F32, ∀ j : Nat,
    dist j = ((metric3 0x029#9).mul (zeroVec3.sub ([zeroVec3, zeroVec3].getD j zeroVec3))).lengthSquared :=
  ⟨_, fun _ => rfl⟩

theorem witness_ordering : ∀ p ∈ [(zeroVec3, F32.one), (⟨F32.one, F32.one, F32.half⟩, F32.one)],
    (Vec3.dot p.1 ⟨F32.one, F32.one, F32.one⟩).isNaN = false := by decide +kernel

theorem witness_partitionSearch : ∃ (pw : List Vec4) (b : Search) (sumFrom sumSkip : Nat → Nat → Vec4),
    pw.length = 2 ∧ b.error = Vec4.splat F32.fltMax ∧
    (∀ i j : Nat, sumFrom i j = ((pw.drop i).take (j - i)).foldl Vec4.add zero4) ∧
    (∀ i j : Nat, sumSkip i j = if i = 0 then ((pw.drop 1).take (j - 1)).foldl Vec4.add (pw.getD 0 zero4) else sumFrom i j) :=
  ⟨[one4, half4], ⟨Vec4.splat F32.fltMax, zero4, zero4, 0, 0, 0, 0⟩, _, _, rfl, rfl, fun _ _ => rfl, fun _ _ => rfl⟩

theorem witness_packCommands : packState.fit.lanesFinite = true ∧ floatTo565 packState.fit.start = 0xF800#16 ∧
    floatTo565 packState.fit.stop = 0x001F#16 ∧ F32.fltMax.lt F32.one = false ∧ F32.zero.lt F32.fltMax.neg = false ∧
    finiteBits F32.fltMax = true ∧ finiteBits F32.fltMax.neg = true := by decide +kernel

theorem witness_colourDec_four :
    let s := blockState 0x000#9 #v[0x0000FFFF#32, 0xE4E4E4E4#32, 0#32, 0#32]
    ¬ ((endpointA (s.blockHalf false)).toNat ≤ (endpointB (s.blockHalf false)).toNat) ∧
    isBC1 (normalise s.cfg) = true ∧ colourIndex (s.blockHalf false) 3 = 3 := by decide

theorem witness_colourDec : ∃ three : Bool,
    (three = true ↔ (endpointA (State.reset.blockHalf false)).toNat ≤ (endpointB (State.reset.blockHalf false)).toNat ∧
      (isBC1 (normalise State.reset.cfg) = true ∨ Config.bc23ColourMode = .compare)) :=
  ⟨true, fun _ => ⟨by decide, .inl (by decide)⟩, fun _ => rfl⟩

theorem witness_emptyAlphaRange :
    { Config.params with alphaEmpty5 := .otherRange }.alphaEmpty5 = .otherRange ∧
    { Config.params with alphaEmpty5 := .collapse }.alphaEmpty5 = .collapse ∧
    (let T := (alphaState 0x0003#16 fun i => i.val).texel
     slotValid 0x0003#16 1 = true ∧ texelA T[(1 : Fin 16)] ≠ 0#8 ∧ texelA T[(1 : Fin 16)] ≠ 255#8) ∧
    (∀ i : Fin 16, slotValid 0x0001#16 i = true → texelA ((alphaState 0x0001#16 fun i => i.val).texel[i]) = 0#8) :=
  ⟨rfl, rfl, by decide, by decide⟩

theorem witness_fixRange : fixRange 10 17 7 = (10, 17) ∧ fixRange 128 128 5 = (128, 133) ∧ fixRange 255 255 5 = (250, 255) ∧
    fixRange 248 248 7 = (248, 255) ∧ fixRange 249 255 7 = (248, 255) := by decide

theorem witness_nearestAlpha : ∀ j : Fin 8, (codes7 0 255)[j] ≤ 255 := by decide

theorem witness_floatOps : F32.one.isFinite = true ∧ F32.fltMax.isFinite = true ∧ F32.one.isZero = false := by decide

theorem witness_clamp :
    0x7F800000 < (0xFFC00000#32 : BitVec 32).toNat % 0x80000000 ∧ F32.inf true = ⟨0xFF800000#32⟩ ∧
    0 < (0x00000001#32 : BitVec 32).toNat ∧ (0x3F800000#32 : BitVec 32).toNat ≤ 0x3F800000 := by decide

end Sys2Proof.Tests
end

section
/-! PROOFS. The state as the register port shows it (`10_state.md`): the effect of a host write by the branch of R450 it
takes, and ECFG as a view of CFG (R38). -/

namespace Sys2Proof.Machine

/-! ### A host write, by the kind of register at the offset (R450, R453) -/

/-- An equation for the read-only branch of R450: the busy test is never reached, so it needs no premise on `busy`. -/
theorem State.hostWrite_of_readOnly {off : BitVec 12} {r : Reg} (hr : regAt off = some r) (hro : readOnly r = true)
    (s : State) (v : Word) : s.hostWrite off v = s.raise .roWrite := by
  simp [State.hostWrite, hr, hro]

/-- An equation for the branch of R450 an idle core takes at a writable register. -/
theorem State.hostWrite_of_idle {s : State} {off : BitVec 12} {r : Reg} (hr : regAt off = some r)
    (hrw : readOnly r = false) (hidle : s.busy = false) (v : Word) : s.hostWrite off v = s.store r v := by
  simp [State.hostWrite, hr, hrw, hidle]

/-! ### CFG and its view ECFG (R35, R38) -/

@[simp] theorem State.regValue_ecfg (s : State) : s.regValue .ecfg = (normalise s.cfg).zeroExtend 32 := rfl

@[simp] theorem State.store_cfg_cfg (s : State) (v : Word) : (s.store .cfg v).cfg = v.extractLsb' 0 9 := rfl

/-- Settles O14. ECFG is computed from CFG at every read, so its value after a CFG write needs only what that write
stored. -/
theorem ecfgIsCombinational : Obligations.EcfgIsCombinational := by
  intro s v
  refine ⟨s.regValue_ecfg, ?readOnly, fun hidle => ?followsCfg⟩
  case readOnly =>
    have hwrite : s.hostWrite 0x010#12 v = s.raise .roWrite :=
      State.hostWrite_of_readOnly (regAt_regOffset .ecfg) rfl s v
    rw [hwrite]
    rfl
  case followsCfg =>
    have hwrite : s.hostWrite 0x000#12 v = s.store .cfg v :=
      State.hostWrite_of_idle (regAt_regOffset .cfg) rfl hidle v
    rw [hwrite, State.regValue_ecfg, State.store_cfg_cfg]

end Sys2Proof.Machine
end

section
/-! PROOFS. The port as a memory map (`20_memory.md`): where `regAt` finds a register, and the accesses that only raise an
error (R75, R76). -/

namespace Sys2Proof.Machine

/-! ### The register map read backwards (R33) -/

/-- The last register of the map is ORDER31, at word 0x9F. -/
theorem regAtWord_eq_none_of_le {n : Nat} (h : 0xA0 ≤ n) : regAtWord n = none := by
  unfold regAtWord
  iterate 13 rw [if_neg (by omega)]

/-- R33 as a finite table: each of its words that holds a register holds the one at that word's offset. -/
theorem regOffset_of_mem_regAtWord : ∀ n : Fin 0xA0, ∀ r ∈ regAtWord n.val, regOffset r = 4 * n.val := by
  decide

/-- The converse of `regAt_regOffset`, on words. -/
theorem regOffset_of_regAtWord {n : Nat} {r : Reg} (h : regAtWord n = some r) : regOffset r = 4 * n := by
  by_cases hmap : n < 0xA0
  case pos => exact regOffset_of_mem_regAtWord ⟨n, hmap⟩ r h
  case neg =>
    rw [regAtWord_eq_none_of_le (Nat.le_of_not_lt hmap)] at h
    cases h

theorem regOffset_of_regAt {off : BitVec 12} {r : Reg} (h : regAt off = some r) : regOffset r = off.toNat := by
  unfold regAt at h
  split_ifs at h with haligned
  have hword := regOffset_of_regAtWord h
  omega

theorem regAt_eq_some_iff {off : BitVec 12} {r : Reg} : regAt off = some r ↔ regOffset r = off.toNat := by
  refine ⟨regOffset_of_regAt, fun h => ?_⟩
  have hoff : BitVec.ofNat 12 (regOffset r) = off := by rw [h, BitVec.ofNat_toNat, BitVec.setWidth_eq]
  rw [← hoff, regAt_regOffset]

/-- R75 and R76 as one test: `regAt` fails at exactly the misaligned and the unmapped offsets. -/
theorem regAt_eq_none_iff {off : BitVec 12} :
    regAt off = none ↔ off.toNat % 4 ≠ 0 ∨ ∀ r : Reg, regOffset r ≠ off.toNat := by
  constructor
  · intro hnone
    refine .inr fun r hr => ?_
    rw [regAt_eq_some_iff.mpr hr] at hnone
    cases hnone
  · rintro (hmisaligned | hunmapped)
    · exact if_neg hmisaligned
    · exact Option.eq_none_iff_forall_ne_some.mpr fun r hr => hunmapped r (regOffset_of_regAt hr)

/-! ### Accesses by the branch of R450 they take -/

theorem State.hostWrite_of_regAt_none {off : BitVec 12} (h : regAt off = none) (s : State) (v : Word) :
    s.hostWrite off v = s.raise .badAddr := by
  simp [State.hostWrite, h]

theorem State.hostRead_of_regAt_none {off : BitVec 12} (h : regAt off = none) (s : State) :
    s.hostRead off = { s.raise .badAddr with rdata := 0#32 } := by
  simp [State.hostRead, h]

/-- CMD is tested before the busy flag, so there is no premise on `busy`. -/
theorem State.hostRead_of_regAt_cmd {off : BitVec 12} (h : regAt off = some .cmd) (s : State) :
    s.hostRead off = { s with rdata := 0#32 } := by
  simp [State.hostRead, h]

/-- Settles O9. Each clause names the branch of R450 that its offset takes; none of the three looks at `busy`. -/
theorem badAccessesOnlyRaiseErrors : Obligations.BadAccessesOnlyRaiseErrors := by
  intro s off v
  refine ⟨fun hbad => ?badOffset, fun r hr hro => ?readOnly, ?readCmd⟩
  case badOffset =>
    have hnone : regAt off = none := regAt_eq_none_iff.mpr hbad
    exact ⟨State.hostWrite_of_regAt_none hnone s v, State.hostRead_of_regAt_none hnone s⟩
  case readOnly => exact State.hostWrite_of_readOnly (regAt_eq_some_iff.mpr hr) hro s v
  case readCmd => exact State.hostRead_of_regAt_cmd (regAt_regOffset .cmd) s

end Sys2Proof.Machine
end

section
/-! PROOFS. The command words (`30_encoding.md`): the rows of the opcode map, what the decoder refuses, and what a CMD write
of an idle core does with each answer of the decoder (R101 to R103, R450). -/

namespace Sys2Proof.Machine

/-! ### The two refusals of the decoder (R102, R103) -/

/-- R103: the reserved bits are tested first, so the condition says nothing about the OP. -/
theorem decode_eq_reserved_iff {w : Word} : decode w = .error .reserved ↔ w.extractLsb' 8 24 ≠ 0#24 := by
  rcases decode_cases w with ⟨hrsv, hw⟩ | ⟨hrsv, -, hw⟩ | ⟨i, hrsv, -, hw⟩ <;> simp [hw, hrsv]

/-- R102 read on whole words: an OP outside the map is a word with RSV = 0 that encodes no command. -/
theorem decode_eq_illegalOp_iff {w : Word} :
    decode w = .error .illegalOp ↔ w.extractLsb' 8 24 = 0#24 ∧ ∀ i : Instr, w ≠ encode i := by
  constructor
  · intro hillegal
    refine ⟨?rsvZero, ?noCommand⟩
    case rsvZero =>
      by_contra hrsv
      rw [decode_eq_reserved_iff.mpr hrsv] at hillegal
      cases hillegal
    case noCommand =>
      rintro i rfl
      rw [decode_encode] at hillegal
      cases hillegal
  · rintro ⟨hrsv, hne⟩
    rcases decode_cases w with ⟨hrsv', -⟩ | ⟨-, -, hw⟩ | ⟨i, -, -, hw⟩
    · exact absurd hrsv hrsv'
    · exact hw
    · exact absurd (encode_of_decode hw) (hne i)

@[simp] theorem extractLsb'_op_encode (i : Instr) : (encode i).extractLsb' 0 8 = i.opcode := by cases i <;> rfl

/-! ### A CMD write, by the decoder's answer (R450) -/

theorem State.writeCmd_of_reserved {v : Word} (h : decode v = .error .reserved) (s : State) :
    s.writeCmd v = s.raise .reserved := by
  simp [State.writeCmd, h]

theorem State.writeCmd_of_illegalOp {v : Word} (h : decode v = .error .illegalOp) (s : State) :
    s.writeCmd v = s.raise .illegalOp := by
  simp [State.writeCmd, h]

theorem State.writeCmd_encode (i : Instr) (s : State) : s.writeCmd (encode i) = s.accept i.opcode := by
  simp [State.writeCmd, decode_encode]

theorem State.hostWrite_cmd_of_idle {s : State} (hidle : s.busy = false) (v : Word) :
    s.hostWrite 0x008#12 v = s.writeCmd v :=
  State.hostWrite_of_idle (regAt_regOffset .cmd) rfl hidle v

/-- Settles O8. The three clauses are the three answers of the decoder: R103's refusal, R102's, and a command word. -/
theorem commandAcceptance : Obligations.CommandAcceptance := by
  intro s v hidle
  rw [State.hostWrite_cmd_of_idle hidle]
  refine ⟨fun hrsv => ?reserved, fun hrsv hne => ?illegalOp, ?accepted⟩
  case reserved => exact State.writeCmd_of_reserved (decode_eq_reserved_iff.mpr hrsv) s
  case illegalOp => exact State.writeCmd_of_illegalOp (decode_eq_illegalOp_iff.mpr ⟨hrsv, hne⟩) s
  case accepted =>
    rintro i rfl
    rw [State.writeCmd_encode, extractLsb'_op_encode]
    rfl

/-- Settles O2. Each literal is the command word of its row, which the decoder inverts. -/
theorem commandWords : Obligations.CommandWords :=
  ⟨decode_encode .nop, decode_encode .compress, decode_encode .compressMasked, decode_encode .decompress,
    decode_encode .clear, decode_encode .psBuild, decode_encode .fitAuto, decode_encode .fitSingle,
    decode_encode .fitRange, decode_encode .fitCluster, decode_encode .pack3, decode_encode .pack4,
    decode_encode .colourDec, decode_encode .alpha3Enc, decode_encode .alpha3Dec, decode_encode .alpha5Enc,
    decode_encode .alpha5Dec⟩

end Sys2Proof.Machine
end

section
/-! PROOFS. `Min`, `Max` and the clamp to [0, 1] (`40_vector_math.md` R152): the order key of a pattern against its class and its
value, and the three answers of the clamp. -/

namespace Sys2Proof

/-! ### The value of a pattern, counted in units of `2^-149` -/

/-- The magnitude with exponent-and-fraction field `n`, in units of the smallest subnormal. -/
def F32.unitsOfField (n : Nat) : Nat :=
  if n / 0x800000 = 0 then n % 0x800000 else (n % 0x800000 + 0x800000) * 2 ^ (n / 0x800000 - 1)

/-- The value with order key `k`, in the same units: `F32.unitsOfField` continued to an odd function. -/
def F32.unitsOfKey (k : ℤ) : ℤ := k.sign * F32.unitsOfField k.natAbs

@[simp] theorem F32.unitsOfKey_neg (k : ℤ) : F32.unitsOfKey (-k) = -F32.unitsOfKey k := by
  simp [F32.unitsOfKey]

@[simp] theorem F32.unitsOfKey_natCast (n : Nat) : F32.unitsOfKey n = F32.unitsOfField n := by
  rcases n.eq_zero_or_pos with rfl | hpos
  · rfl
  · simp [F32.unitsOfKey, Int.sign_natCast_of_ne_zero hpos.ne']

/-- The next pattern up is a larger value: within a binade the fraction grows, and past its last fraction the exponent does. -/
theorem F32.unitsOfField_lt_succ (n : Nat) : F32.unitsOfField n < F32.unitsOfField (n + 1) := by
  unfold F32.unitsOfField
  by_cases hlast : n % 0x800000 + 1 = 0x800000
  case pos =>
    have hex : (n + 1) / 0x800000 = n / 0x800000 + 1 := by omega
    have hfr : (n + 1) % 0x800000 = 0 := by omega
    rw [hex, hfr, if_neg (Nat.succ_ne_zero _), Nat.add_sub_cancel]
    split_ifs with hsub
    · rw [hsub]
      omega
    · obtain ⟨e, he⟩ := Nat.exists_eq_succ_of_ne_zero hsub
      rw [he, Nat.succ_sub_one, pow_succ', ← mul_assoc]
      exact Nat.mul_lt_mul_of_pos_right (by omega) (by positivity)
  case neg =>
    have hex : (n + 1) / 0x800000 = n / 0x800000 := by omega
    have hfr : (n + 1) % 0x800000 = n % 0x800000 + 1 := by omega
    rw [hex, hfr]
    split_ifs
    · exact Nat.lt_succ_self _
    · exact Nat.mul_lt_mul_of_pos_right (by omega) (by positivity)

theorem F32.unitsOfKey_strictMono : StrictMono F32.unitsOfKey := by
  refine strictMono_of_odd_strictMonoOn_nonneg F32.unitsOfKey_neg fun a ha b hb hab => ?_
  lift a to ℕ using ha
  lift b to ℕ using hb
  have hfield := strictMono_nat_of_lt_succ F32.unitsOfField_lt_succ (Int.ofNat_lt.mp hab)
  simpa using hfield

/-! ### What a pattern denotes, by its order key -/

/-- A key without its sign is the exponent-and-fraction field of the pattern. -/
theorem F32.natAbs_key (x : F32) : x.key.natAbs = x.bits.toNat % 0x80000000 := by
  have hword := x.bits.isLt
  simp only [F32.key]
  split <;> omega

theorem F32.key_of_bits_lt {x : F32} (h : x.bits.toNat < 0x80000000) : x.key = x.bits.toNat :=
  if_neg (Nat.not_le.mpr h)

/-- A key is the exponent-and-fraction field of the pattern under its sign bit. -/
theorem F32.key_eq_signed (x : F32) :
    x.key = if 0x80000000 ≤ x.bits.toNat then -(x.key.natAbs : ℤ) else (x.key.natAbs : ℤ) := by
  simp only [F32.key]
  split <;> omega

/-- The three kinds of pattern, by the key: beyond the infinities the NaNs, between them the finite values. -/
theorem F32.unpack_cases (x : F32) :
    (0x7F800000 < x.key.natAbs ∧ x.unpack = .nan) ∨
    (x.key.natAbs = 0x7F800000 ∧ ∃ neg, x.unpack = .inf neg) ∨
    (x.key.natAbs < 0x7F800000 ∧ ∃ m e, x.unpack = .fin (decide (0x80000000 ≤ x.bits.toNat)) m e ∧
      (m : ℚ) * 2 ^ e = F32.unitsOfField x.key.natAbs * 2 ^ (-149 : ℤ)) := by
  have hex : x.bits.toNat / 0x800000 % 256 = x.key.natAbs / 0x800000 := by rw [x.natAbs_key]; omega
  have hfr : x.bits.toNat % 0x800000 = x.key.natAbs % 0x800000 := by rw [x.natAbs_key]; omega
  have hbound : x.key.natAbs < 0x80000000 := by rw [x.natAbs_key]; omega
  simp only [F32.unpack, F32.unitsOfField, hex, hfr]
  generalize x.key.natAbs = n at hbound ⊢
  by_cases hspecial : n / 0x800000 = 255
  case pos =>
    by_cases hzero : n % 0x800000 = 0
    · exact .inr (.inl ⟨by omega, _, by rw [if_pos hspecial, if_pos hzero]⟩)
    · exact .inl ⟨by omega, by rw [if_pos hspecial, if_neg hzero]⟩
  case neg =>
    refine .inr (.inr ⟨by omega, ?_⟩)
    rw [if_neg hspecial]
    by_cases hsub : n / 0x800000 = 0
    · simp only [if_pos hsub]
      exact ⟨_, _, rfl, rfl⟩
    · simp only [if_neg hsub]
      refine ⟨_, _, rfl, ?_⟩
      obtain ⟨e, he⟩ := Nat.exists_eq_succ_of_ne_zero hsub
      have hexp : ((n / 0x800000 : ℕ) : ℤ) - 150 = (e : ℤ) + (-149) := by omega
      rw [hexp, zpow_add₀ two_ne_zero, he, Nat.succ_sub_one]
      push_cast
      rw [zpow_natCast, mul_assoc]

theorem F32.isNaN_iff {x : F32} : x.isNaN = true ↔ 0x7F800000 < x.key.natAbs := by
  rcases x.unpack_cases with ⟨hkey, hx⟩ | ⟨hkey, neg, hx⟩ | ⟨hkey, m, e, hx, -⟩ <;> simp [F32.isNaN, hx] <;> omega

theorem F32.isNaN_iff_bits {x : F32} : x.isNaN = true ↔ 0x7F800000 < x.bits.toNat % 0x80000000 := by
  rw [F32.isNaN_iff, F32.natAbs_key]

theorem F32.isFinite_iff {x : F32} : x.isFinite = true ↔ x.key.natAbs < 0x7F800000 := by
  rcases x.unpack_cases with ⟨hkey, hx⟩ | ⟨hkey, neg, hx⟩ | ⟨hkey, m, e, hx, -⟩ <;> simp [F32.isFinite, hx] <;> omega

theorem F32.isNaN_eq_false_iff {x : F32} : x.isNaN = false ↔ x.key.natAbs ≤ 0x7F800000 := by
  rw [← Bool.not_eq_true, F32.isNaN_iff, Nat.not_lt]

theorem F32.value_eq_unitsOfKey {x : F32} (hx : x.isFinite = true) :
    x.value = F32.unitsOfKey x.key * 2 ^ (-149 : ℤ) := by
  rw [F32.isFinite_iff] at hx
  rcases x.unpack_cases with ⟨hkey, -⟩ | ⟨hkey, -⟩ | ⟨-, m, e, hunpack, hunits⟩
  · omega
  · omega
  · have hvalue : x.value = (if 0x80000000 ≤ x.bits.toNat then -1 else 1) * ((m : ℚ) * 2 ^ e) := by
      simp [F32.value, hunpack]
    have hsigned := x.key_eq_signed
    generalize x.key.natAbs = n at hsigned hunits
    rw [hvalue, hunits, hsigned]
    split_ifs <;> simp

/-! ### The ordered comparison (R152) -/

theorem F32.lt_eq_false_of_isNaN {x y : F32} (h : x.isNaN = true ∨ y.isNaN = true) : x.lt y = false := by
  rcases h with h | h <;> simp [F32.lt, h]

/-- Between patterns that are no NaN, infinities included, the keys decide. -/
theorem F32.lt_iff_key_lt {x y : F32} (hx : x.isNaN = false) (hy : y.isNaN = false) : x.lt y = true ↔ x.key < y.key := by
  simp [F32.lt_iff, hx, hy]

theorem F32.isNaN_of_isFinite {x : F32} (hx : x.isFinite = true) : x.isNaN = false :=
  F32.isNaN_eq_false_iff.mpr (F32.isFinite_iff.mp hx).le

/-- Keys order the finite patterns as their values, because units grow with the key. -/
theorem F32.lt_iff_value_lt {x y : F32} (hx : x.isFinite = true) (hy : y.isFinite = true) :
    x.lt y = true ↔ x.value < y.value := by
  rw [F32.lt_iff_key_lt (F32.isNaN_of_isFinite hx) (F32.isNaN_of_isFinite hy), F32.value_eq_unitsOfKey hx,
    F32.value_eq_unitsOfKey hy, mul_lt_mul_iff_left₀ (by positivity), Int.cast_lt, F32.unitsOfKey_strictMono.lt_iff_lt]

/-- The infinities lie at the two ends of the finite values. -/
theorem F32.lt_inf_of_isFinite {x : F32} (hx : x.isFinite = true) :
    x.lt (F32.inf false) = true ∧ (F32.inf true).lt x = true := by
  have hnan := F32.isNaN_of_isFinite hx
  rw [F32.isFinite_iff] at hx
  have hposKey : (F32.inf false).key = 0x7F800000 := rfl
  have hnegKey : (F32.inf true).key = -0x7F800000 := rfl
  rw [F32.lt_iff_key_lt hnan rfl, F32.lt_iff_key_lt rfl hnan, hposKey, hnegKey]
  omega

/-! ### The clamp, by where its operand lies (R152) -/

/-- What is not above 0, a NaN included, is clamped to `+0`. -/
theorem F32.clamp01_of_not_pos {x : F32} (h : F32.zero.lt x = false) : x.clamp01 = F32.zero := by
  have hmax : F32.zero.max x = F32.zero := by simp [F32.max, h]
  rw [F32.clamp01, hmax]
  rfl

theorem F32.clamp01_of_pos_of_lt_one {x : F32} (hpos : F32.zero.lt x = true) (hlt : x.lt F32.one = true) : x.clamp01 = x := by
  simp [F32.clamp01, F32.max, F32.min, hpos, hlt]

theorem F32.clamp01_of_pos_of_not_lt_one {x : F32} (hpos : F32.zero.lt x = true) (hge : x.lt F32.one = false) :
    x.clamp01 = F32.one := by
  simp [F32.clamp01, F32.max, F32.min, hpos, hge]

theorem F32.clamp01_of_isNaN {x : F32} (h : x.isNaN = true) : x.clamp01 = F32.zero :=
  F32.clamp01_of_not_pos (F32.lt_eq_false_of_isNaN (.inr h))

theorem F32.zero_lt_iff {x : F32} (hx : x.isNaN = false) : F32.zero.lt x = true ↔ 0 < x.key :=
  F32.lt_iff_key_lt rfl hx

theorem F32.lt_one_iff {x : F32} (hx : x.isNaN = false) : x.lt F32.one = true ↔ x.key < 0x3F800000 :=
  F32.lt_iff_key_lt hx rfl

/-- The patterns of the positive values up to 1 are those from 1 up to the pattern of `1.0`. -/
theorem F32.clamp01_of_bits_le_one {x : F32} (hpos : 0 < x.bits.toNat) (hle : x.bits.toNat ≤ 0x3F800000) :
    x.clamp01 = x := by
  have hkey : x.key = x.bits.toNat := F32.key_of_bits_lt (by omega)
  have hnan : x.isNaN = false := F32.isNaN_eq_false_iff.mpr (by omega)
  have hzero : F32.zero.lt x = true := (F32.zero_lt_iff hnan).mpr (by omega)
  rcases hle.lt_or_eq with hlt | heq
  · exact F32.clamp01_of_pos_of_lt_one hzero ((F32.lt_one_iff hnan).mpr (by omega))
  · have hone : x = F32.one := congrArg F32.mk (BitVec.eq_of_toNat_eq heq)
    rw [hone]
    rfl

/-- Each of the three answers has a pattern up to that of `1.0`. -/
theorem F32.clamp01_bits_le_one (x : F32) : x.clamp01.bits.toNat ≤ 0x3F800000 := by
  cases hzero : F32.zero.lt x
  case false =>
    rw [F32.clamp01_of_not_pos hzero]
    decide
  case true =>
    cases hone : x.lt F32.one
    case false =>
      rw [F32.clamp01_of_pos_of_not_lt_one hzero hone]
      decide
    case true =>
      obtain ⟨-, hnan, -⟩ := F32.lt_iff.mp hzero
      have hkeyPos := (F32.zero_lt_iff hnan).mp hzero
      have hkeyOne := (F32.lt_one_iff hnan).mp hone
      have hfield := x.natAbs_key
      have hsigned := x.key_eq_signed
      rw [F32.clamp01_of_pos_of_lt_one hzero hone]
      split at hsigned <;> omega

/-! ### The statement of R152 -/

/-- Settles O60. The select forms are the model's definitions and the lanes are independent; the comparison clauses go through
the order keys, and the clamp clauses through its three answers. -/
theorem clampToUnit : Obligations.ClampToUnit := by
  refine ⟨fun u v => ⟨rfl, rfl⟩, fun x => ⟨?clampNaN, ?clampNegInf, ?clampPosInf, ?keep, rfl, x.clamp01_bits_le_one⟩,
    ?ltNaN, fun x y => F32.lt_iff_value_lt, ?ltInf, rfl, rfl, F32.lt_irrefl, fun v => rfl, fun u v => ⟨rfl, rfl⟩,
    fun u v => ⟨rfl, rfl⟩⟩
  case clampNaN => exact fun h => F32.clamp01_of_isNaN (F32.isNaN_iff_bits.mpr h)
  case clampNegInf =>
    intro h
    have hx : x = F32.inf true := congrArg F32.mk h
    rw [hx]
    exact F32.clamp01_of_not_pos rfl
  case clampPosInf =>
    intro h
    have hx : x = F32.inf false := congrArg F32.mk h
    rw [hx]
    exact F32.clamp01_of_pos_of_not_lt_one rfl rfl
  case keep => exact F32.clamp01_of_bits_le_one
  case ltNaN => exact fun x y h => F32.lt_eq_false_of_isNaN (h.imp F32.isNaN_iff_bits.mpr F32.isNaN_iff_bits.mpr)
  case ltInf =>
    intro x hx
    obtain ⟨hbelow, habove⟩ := F32.lt_inf_of_isFinite hx
    exact ⟨hbelow, habove, F32.lt_asymm hbelow, F32.lt_asymm habove⟩

end Sys2Proof
end

section
/-! PROOFS. The control commands (`47_commands.md`): the whole effect of NOP and CLEAR (R410, R414), and the fit commands
without a point set (R415, R453). -/

namespace Sys2Proof.Machine

/-! ### The effect of a control command (R410, R414, R454) -/

theorem exec_nop (s : State) : exec .nop s = .next s.complete := by
  rw [exec_eq_runCommand]
  exact runCommand_ok rfl

theorem exec_clear (s : State) : exec .clear s = .next s.cleared.complete := by
  rw [exec_eq_runCommand]
  exact runCommand_ok rfl

/-! ### A fit command without a point set (R415, R453) -/

/-- FIT_SINGLE tests the point set before its size, so the lemma needs no premise on `count`. -/
theorem commandBody_fit_of_not_valid {i : Instr} (hi : i ∈ [Instr.fitAuto, .fitSingle, .fitRange, .fitCluster]) {s : State}
    (hps : s.ps.valid = false) : commandBody i s = .error .noPs := by
  simp only [List.mem_cons, List.not_mem_nil, or_false] at hi
  obtain rfl | rfl | rfl | rfl := hi
  · simp [commandBody, fitAutoBody, hps]
  · simp [commandBody, fitSingleBody, hps]
  · simp [commandBody, fitRangeBody, hps]
  · simp [commandBody, fitClusterBody, hps]

theorem exec_fit_of_not_valid {i : Instr} (hi : i ∈ [Instr.fitAuto, .fitSingle, .fitRange, .fitCluster]) {s : State}
    (hps : s.ps.valid = false) : exec i s = .next (s.abort .noPs) := by
  rw [exec_eq_runCommand]
  exact runCommand_error (commandBody_fit_of_not_valid hi hps)

/-- Settles O25. The states the statement writes out are `State.complete`, `State.cleared` and `State.abort` unfolded; a fit
after CLEAR finds the reset point-set file, which is not valid. -/
theorem nopAndClear : Obligations.NopAndClear := by
  refine ⟨decode_encode .nop, decode_encode .clear, ⟨_, exec_nop _, ?resetStatus⟩,
    fun s => ⟨exec_nop s, s.cleared.complete, exec_clear s, rfl, fun i hi => ?fitAfterClear⟩⟩
  case resetStatus => decide
  case fitAfterClear =>
    have hps : s.cleared.complete.ps.valid = false := by
      rw [State.complete_ps, State.cleared_ps]
      rfl
    exact exec_fit_of_not_valid hi hps

end Sys2Proof.Machine
end

section
/-! PROOFS. The decoder (`30_encoding.md` R100 to R103): its three answers by the number a command word is. -/

namespace Sys2Proof.Machine

/-! ### A command word as its two fields (R100) -/

theorem rsv_eq_zero_iff {w : Word} : w.extractLsb' 8 24 = 0#24 ↔ w.toNat < 256 := by
  have := w.isLt
  rw [← BitVec.toNat_inj, BitVec.extractLsb'_toNat, Nat.shiftRight_eq_div_pow, BitVec.toNat_ofNat]
  omega

theorem op_toNat_of_lt {w : Word} (h : w.toNat < 256) : (w.extractLsb' 0 8).toNat = w.toNat := by
  rw [BitVec.extractLsb'_toNat, Nat.shiftRight_zero]
  exact Nat.mod_eq_of_lt h

theorem opListed_eq_false_iff {op : Byte} {rsv : BitVec 24} :
    CommandWord.opListed ⟨op, rsv⟩ = false ↔
      (0x05 ≤ op.toNat ∧ op.toNat ≤ 0x0F) ∨ (0x11 ≤ op.toNat ∧ op.toNat ≤ 0x1F) ∨
        (0x24 ≤ op.toNat ∧ op.toNat ≤ 0x2F) ∨ (0x33 ≤ op.toNat ∧ op.toNat ≤ 0x3F) ∨
        (0x44 ≤ op.toNat ∧ op.toNat ≤ 0xFF) := by
  simp only [CommandWord.opListed, Bool.and_eq_false_iff, Bool.not_eq_false', Bool.and_eq_true, decide_eq_true_eq]
  omega

/-- R101 against R102: the rows of the map are the OPs that lie in none of the illegal ranges. -/
theorem opListed_eq_isSome (op : Byte) (rsv : BitVec 24) :
    CommandWord.opListed ⟨op, rsv⟩ = (decodeOp op).isSome := by
  have hop := op.isLt
  unfold decodeOp
  split
  case h_18 =>
    rw [Option.isSome_none, opListed_eq_false_iff]
    simp only [imp_false] at *
    omega
  all_goals rename_i h; simp [CommandWord.opListed, h]

/-! ### The answers of the decoder, by the number (R102, R103) -/

theorem decode_eq_ok_iff {w : Word} {i : Instr} : decode w = .ok i ↔ w = encode i :=
  ⟨encode_of_decode, fun h => h ▸ decode_encode i⟩

theorem decode_eq_reserved_iff_le {w : Word} : decode w = .error .reserved ↔ 256 ≤ w.toNat := by
  rw [decode_eq_reserved_iff, ne_eq, rsv_eq_zero_iff, Nat.not_lt]

theorem decode_eq_illegalOp_iff_opListed {w : Word} :
    decode w = .error .illegalOp ↔ w.toNat < 256 ∧ (CommandWord.ofWord w).opListed = false := by
  rw [CommandWord.ofWord, opListed_eq_isSome, ← rsv_eq_zero_iff]
  rcases decode_cases w with ⟨hrsv, hw⟩ | ⟨hrsv, hop, hw⟩ | ⟨i, hrsv, hop, hw⟩ <;> simp [*]

theorem wellFormed_ofWord_iff {w : Word} : (CommandWord.ofWord w).wellFormed = true ↔ ∃ i, decode w = .ok i := by
  rw [CommandWord.wellFormed, CommandWord.ofWord, opListed_eq_isSome, CommandWord.rsvClear]
  rcases decode_cases w with ⟨hrsv, hw⟩ | ⟨hrsv, hop, hw⟩ | ⟨i, hrsv, hop, hw⟩ <;> simp [*]

/-- Settles O1. The map inverts the encoder, the first refusal is a bound on the word, and below that bound the word is its
OP, so the second refusal is R102's ranges. -/
theorem decodeExact : Obligations.DecodeExact := by
  refine ⟨fun w i => decode_eq_ok_iff, fun w => decode_eq_reserved_iff_le, fun w => ?_, fun w => wellFormed_ofWord_iff⟩
  rw [decode_eq_illegalOp_iff_opListed, CommandWord.ofWord, opListed_eq_false_iff]
  by_cases h : w.toNat < 256
  · rw [op_toNat_of_lt h]
    simp [h]
  · omega

/-- Settles O3. Nine bits have 512 values, and each is evaluated. -/
theorem normaliseFlags : Obligations.NormaliseFlags := by
  unfold Obligations.NormaliseFlags
  decide +kernel

end Sys2Proof.Machine
end

section
/-! PROOFS. The two kinds of sub-block as packed fields (`30_encoding.md` section 4): endpoints and indices read back as
written, and every eight bytes are the packing of what they unpack to (R121, R124, R332, R385, R392). -/

namespace Sys2Proof.Machine

/-! ### Endpoint halfwords (R121) -/

theorem halfword_of_bytes (a : BitVec 16) : a.extractLsb' 8 8 ++ a.extractLsb' 0 8 = a := by
  apply BitVec.eq_of_toNat_eq
  have := a.isLt
  simp only [BitVec.toNat_append, BitVec.extractLsb'_toNat, Nat.shiftRight_zero]
  rw [← Nat.shiftLeft_add_eq_or_of_lt (Nat.mod_lt _ (by decide)), Nat.shiftLeft_eq, Nat.shiftRight_eq_div_pow]
  omega

theorem toNat_append_bytes (hi lo : Byte) : (hi ++ lo).toNat = hi.toNat * 256 + lo.toNat := by
  rw [BitVec.toNat_append, ← Nat.shiftLeft_add_eq_or_of_lt lo.isLt, Nat.shiftLeft_eq]

theorem low_byte_of_append (hi lo : Byte) : (hi ++ lo).extractLsb' 0 8 = lo := by
  apply BitVec.eq_of_toNat_eq
  have := lo.isLt
  rw [BitVec.extractLsb'_toNat, toNat_append_bytes]
  omega

theorem high_byte_of_append (hi lo : Byte) : (hi ++ lo).extractLsb' 8 8 = hi := by
  apply BitVec.eq_of_toNat_eq
  have := hi.isLt; have := lo.isLt
  rw [BitVec.extractLsb'_toNat, toNat_append_bytes, Nat.shiftRight_eq_div_pow]
  omega

@[simp] theorem endpointA_writeColourBlock (a b : BitVec 16) (idx : Vector (BitVec 2) 16) :
    endpointA (writeColourBlock a b idx) = a := halfword_of_bytes a

@[simp] theorem endpointB_writeColourBlock (a b : BitVec 16) (idx : Vector (BitVec 2) 16) :
    endpointB (writeColourBlock a b idx) = b := halfword_of_bytes b

/-! ### Index rows (R121) -/

theorem toNat_indexRow (i0 i1 i2 i3 : BitVec 2) :
    (indexRow i0 i1 i2 i3).toNat = i3.toNat * 64 + i2.toNat * 16 + i1.toNat * 4 + i0.toNat := by
  unfold indexRow
  simp only [BitVec.toNat_append]
  rw [← Nat.shiftLeft_add_eq_or_of_lt i0.isLt, ← Nat.shiftLeft_add_eq_or_of_lt i1.isLt,
    ← Nat.shiftLeft_add_eq_or_of_lt i2.isLt]
  simp only [Nat.shiftLeft_eq]
  omega

theorem extractLsb'_indexRow (i0 i1 i2 i3 : BitVec 2) (k : Fin 4) :
    (indexRow i0 i1 i2 i3).extractLsb' (2 * k.val) 2 = (#v[i0, i1, i2, i3] : Vector (BitVec 2) 4)[k] := by
  have := i0.isLt; have := i1.isLt; have := i2.isLt; have := i3.isLt
  apply BitVec.eq_of_toNat_eq
  match k with
  | 0 | 1 | 2 | 3 =>
    simp [toNat_indexRow, Nat.shiftRight_eq_div_pow]
    omega

/-- A byte is the row of its four fields. -/
theorem indexRow_extractLsb' (b : Byte) :
    indexRow (b.extractLsb' 0 2) (b.extractLsb' 2 2) (b.extractLsb' 4 2) (b.extractLsb' 6 2) = b := by
  apply BitVec.eq_of_toNat_eq
  have := b.isLt
  simp only [toNat_indexRow, BitVec.extractLsb'_toNat, Nat.shiftRight_eq_div_pow]
  omega

@[simp] theorem colourIndex_writeColourBlock (a b : BitVec 16) (idx : Vector (BitVec 2) 16) (i : Fin 16) :
    colourIndex (writeColourBlock a b idx) i = (idx[i]).toFin := by
  have hrow (j0 j1 j2 j3 : BitVec 2) := extractLsb'_indexRow j0 j1 j2 j3 (Fin.ofNat 4 i.val)
  fin_cases i <;> exact congrArg BitVec.toFin (hrow _ _ _ _)

/-- Settles O4. Endpoints and rows read back as written; the other way round each byte is the join of its fields. -/
theorem colourBlockRoundTrip : Obligations.ColourBlockRoundTrip := by
  refine ⟨fun a b idx => ⟨endpointA_writeColourBlock a b idx, endpointB_writeColourBlock a b idx,
    colourIndex_writeColourBlock a b idx⟩, fun bytes => ?_⟩
  have hrow (r : Fin 4) := indexRow_extractLsb' (bytes[4 + r.val])
  have hofFin (i : Fin 16) : BitVec.ofFin (colourIndex bytes i) =
      (bytes[4 + i.val / 4]).extractLsb' (2 * (i.val % 4)) 2 := rfl
  simp only [writeColourBlock, Vector.getElem_ofFn, hofFin]
  apply Vector.ext
  intro k hk
  match k with
  | 0 => exact low_byte_of_append bytes[1] bytes[0]
  | 1 => exact high_byte_of_append bytes[1] bytes[0]
  | 2 => exact low_byte_of_append bytes[3] bytes[2]
  | 3 => exact high_byte_of_append bytes[3] bytes[2]
  | 4 => exact hrow 0
  | 5 => exact hrow 1
  | 6 => exact hrow 2
  | 7 => exact hrow 3

/-! ### Groups of eight 3-bit indices (R385, R392) -/

/-- The index `x` joined into a group at index position `j`, above the indices already there. -/
theorem toNat_or_index {v : BitVec 24} {j : Nat} (hv : v.toNat < 8 ^ j) (x : Fin 8) (hj : j < 8) :
    (v ||| BitVec.ofNat 24 x.val <<< (3 * j)).toNat = v.toNat + x.val * 8 ^ j ∧ v.toNat + x.val * 8 ^ j < 8 ^ (j + 1) := by
  have hx := x.isLt
  have hbound : v.toNat + x.val * 8 ^ j < 8 ^ (j + 1) := by
    rw [pow_succ]
    nlinarith
  have htop : 8 ^ (j + 1) ≤ 2 ^ 24 := Nat.pow_le_pow_right (n := 8) (by decide) (by omega : j + 1 ≤ 8)
  have hshift : (BitVec.ofNat 24 x.val <<< (3 * j)).toNat = x.val <<< (3 * j) := by
    rw [BitVec.toNat_shiftLeft, BitVec.toNat_ofNat, Nat.mod_eq_of_lt (by omega : x.val < 2 ^ 24), Nat.shiftLeft_eq,
      pow_mul]
    exact Nat.mod_eq_of_lt (by change x.val * 8 ^ j < _; omega)
  refine ⟨?_, hbound⟩
  rw [BitVec.toNat_or, hshift, Nat.lor_comm, ← Nat.shiftLeft_add_eq_or_of_lt (by rwa [pow_mul]), Nat.shiftLeft_eq, pow_mul,
    Nat.add_comm]
  rfl

/-- A group is the number whose octal digits are its indices, the first index the lowest. -/
theorem toNat_alphaGroup (idx : Vector (Fin 8) 16) (g : Fin 2) (x : Fin 8 → Fin 8)
    (hx : ∀ j : Fin 8, x j = idx[8 * g.val + j.val]'(by omega)) :
    (alphaGroup idx g).toNat = (x 0).val + (x 1).val * 8 ^ 1 + (x 2).val * 8 ^ 2 + (x 3).val * 8 ^ 3 +
      (x 4).val * 8 ^ 4 + (x 5).val * 8 ^ 5 + (x 6).val * 8 ^ 6 + (x 7).val * 8 ^ 7 := by
  have h0 := toNat_or_index (v := 0#24) (j := 0) (by decide) (x 0) (by decide)
  have h1 := toNat_or_index (h0.1 ▸ h0.2) (x 1) (by decide)
  have h2 := toNat_or_index (h1.1 ▸ h1.2) (x 2) (by decide)
  have h3 := toNat_or_index (h2.1 ▸ h2.2) (x 3) (by decide)
  have h4 := toNat_or_index (h3.1 ▸ h3.2) (x 4) (by decide)
  have h5 := toNat_or_index (h4.1 ▸ h4.2) (x 5) (by decide)
  have h6 := toNat_or_index (h5.1 ▸ h5.2) (x 6) (by decide)
  have h7 := toNat_or_index (h6.1 ▸ h6.2) (x 7) (by decide)
  have hgroup : alphaGroup idx g = (List.finRange 8).foldl
      (fun v j => v ||| BitVec.ofNat 24 (x j).val <<< (3 * j.val)) 0#24 := by
    simp only [alphaGroup, hx]
  rw [hgroup]
  refine h7.1.trans ?_
  rw [h6.1, h5.1, h4.1, h3.1, h2.1, h1.1, h0.1]
  simp

/-- Index `j` of a group is its octal digit `j`. -/
theorem extractLsb'_alphaGroup (idx : Vector (Fin 8) 16) (g : Fin 2) (j : Fin 8) :
    ((alphaGroup idx g).extractLsb' (3 * j.val) 3).toFin = idx[8 * g.val + j.val]'(by omega) := by
  obtain ⟨x, hx⟩ : ∃ x : Fin 8 → Fin 8, ∀ j, x j = idx[8 * g.val + j.val]'(by omega) := ⟨_, fun _ => rfl⟩
  have hsum := toNat_alphaGroup idx g x hx
  rw [← hx]
  have := (x 0).isLt; have := (x 1).isLt; have := (x 2).isLt; have := (x 3).isLt
  have := (x 4).isLt; have := (x 5).isLt; have := (x 6).isLt; have := (x 7).isLt
  apply Fin.ext
  change ((alphaGroup idx g).extractLsb' (3 * j.val) 3).toNat = _
  rw [BitVec.extractLsb'_toNat, hsum, Nat.shiftRight_eq_div_pow, pow_mul]
  match j with
  | 0 | 1 | 2 | 3 | 4 | 5 | 6 | 7 => simp; omega

/-! ### Alpha sub-blocks (R124, R385, R392) -/

/-- Three bytes as the 24-bit group the decoder reads (R392). -/
theorem group_of_bytes (v : BitVec 24) : v.extractLsb' 16 8 ++ v.extractLsb' 8 8 ++ v.extractLsb' 0 8 = v := by
  apply BitVec.eq_of_toNat_eq
  have := v.isLt
  simp only [BitVec.toNat_append, BitVec.extractLsb'_toNat, Nat.shiftRight_zero]
  rw [← Nat.shiftLeft_add_eq_or_of_lt (Nat.mod_lt _ (by decide)), ← Nat.shiftLeft_add_eq_or_of_lt (Nat.mod_lt _ (by decide)),
    Nat.shiftLeft_eq, Nat.shiftLeft_eq, Nat.shiftRight_eq_div_pow, Nat.shiftRight_eq_div_pow]
  omega

/-- The three bytes of a joined group. -/
theorem bytes_of_group (b2 b1 b0 : Byte) :
    (b2 ++ b1 ++ b0 : BitVec 24).extractLsb' 0 8 = b0 ∧ (b2 ++ b1 ++ b0 : BitVec 24).extractLsb' 8 8 = b1 ∧
      (b2 ++ b1 ++ b0 : BitVec 24).extractLsb' 16 8 = b2 := by
  have hsum : (b2 ++ b1 ++ b0 : BitVec 24).toNat = b2.toNat * 65536 + b1.toNat * 256 + b0.toNat := by
    rw [BitVec.toNat_append, ← Nat.shiftLeft_add_eq_or_of_lt b0.isLt, Nat.shiftLeft_eq, toNat_append_bytes]
    omega
  have := b0.isLt; have := b1.isLt; have := b2.isLt
  refine ⟨?_, ?_, ?_⟩ <;>
  · apply BitVec.eq_of_toNat_eq
    rw [BitVec.extractLsb'_toNat, hsum, Nat.shiftRight_eq_div_pow]
    omega

/-- A group is the packing of its own eight indices. -/
theorem alphaGroup_of_digits {idx : Vector (Fin 8) 16} {g : Fin 2} {v : BitVec 24}
    (h : ∀ j : Fin 8, idx[8 * g.val + j.val]'(by omega) = (v.extractLsb' (3 * j.val) 3).toFin) : alphaGroup idx g = v := by
  have hv := v.isLt
  have hdigit (j : Fin 8) : ((v.extractLsb' (3 * j.val) 3).toFin).val = v.toNat / (2 ^ 3) ^ j.val % 8 := by
    rw [← pow_mul, ← Nat.shiftRight_eq_div_pow]
    exact BitVec.extractLsb'_toNat ..
  apply BitVec.eq_of_toNat_eq
  rw [toNat_alphaGroup idx g _ fun j => (h j).symm]
  simp only [hdigit]
  have hval : ((0 : Fin 8).val = 0 ∧ (1 : Fin 8).val = 1 ∧ (2 : Fin 8).val = 2 ∧ (3 : Fin 8).val = 3) ∧
    (4 : Fin 8).val = 4 ∧ (5 : Fin 8).val = 5 ∧ (6 : Fin 8).val = 6 ∧ (7 : Fin 8).val = 7 := by decide
  simp only [hval]
  omega

@[simp] theorem unpackAlphaIndex_writeAlphaBlock (a0 a1 : Nat) (idx : Vector (Fin 8) 16) (i : Fin 16) :
    unpackAlphaIndex (writeAlphaBlock a0 a1 idx) i = idx[i] := by
  have hgroup (g : Fin 2) : (writeAlphaBlock a0 a1 idx)[4 + 3 * g.val] ++ (writeAlphaBlock a0 a1 idx)[3 + 3 * g.val] ++
      (writeAlphaBlock a0 a1 idx)[2 + 3 * g.val] = alphaGroup idx g := by
    match g with
    | 0 | 1 => exact group_of_bytes _
  have hdigit := extractLsb'_alphaGroup idx ⟨i.val / 8, by omega⟩ ⟨i.val % 8, by omega⟩
  rw [← hgroup] at hdigit
  refine hdigit.trans ?_
  simp only [Nat.div_add_mod, Fin.getElem_fin]

/-- Settles O5. The indices are the octal digits of the two groups, and a group is its three bytes. -/
theorem alphaBlockRoundTrip : Obligations.AlphaBlockRoundTrip := by
  have hbyte (b : Byte) : BitVec.ofNat 8 b.toNat = b := by simp
  refine ⟨fun a0 a1 idx => ⟨hbyte _, hbyte _,
    unpackAlphaIndex_writeAlphaBlock a0.toNat a1.toNat idx⟩, fun bytes => ?_⟩
  have hgroup (g : Fin 2) : alphaGroup (Vector.ofFn fun i => unpackAlphaIndex bytes i) g =
      bytes[4 + 3 * g.val] ++ bytes[3 + 3 * g.val] ++ bytes[2 + 3 * g.val] := by
    refine alphaGroup_of_digits fun j => ?_
    rw [Vector.getElem_ofFn]
    match g with
    | 0 | 1 => fin_cases j <;> rfl
  have h0 := bytes_of_group bytes[4] bytes[3] bytes[2]
  have h1 := bytes_of_group bytes[7] bytes[6] bytes[5]
  apply Vector.ext
  intro k hk
  simp only [writeAlphaBlock, hgroup]
  match k with
  | 0 => exact hbyte _
  | 1 => exact hbyte _
  | 2 => exact h0.1
  | 3 => exact h0.2.1
  | 4 => exact h0.2.2
  | 5 => exact h1.1
  | 6 => exact h1.2.1
  | 7 => exact h1.2.2

end Sys2Proof.Machine
end

section
/-! PROOFS. The register port (`10_state.md`, `20_memory.md`): what a write stores, what a read returns, and what each does while
a command is pending (R33, R40 to R42, R75 to R77, R450, R490). -/

namespace Sys2Proof.Machine

/-! ### The register map (R33) -/

theorem regOffset_lt (r : Reg) : regOffset r < 4096 := by
  cases r <;> simp only [regOffset] <;> omega

theorem regOffset_aligned (r : Reg) : regOffset r % 4 = 0 := by
  cases r <;> simp only [regOffset] <;> omega

/-- Settles O6. The two directions are the map and its inverse; the bounds are arithmetic on the offsets. -/
theorem registerMap : Obligations.RegisterMap :=
  ⟨fun r => ⟨regAt_regOffset r, regOffset_lt r, regOffset_aligned r⟩, fun _ _ h => (regOffset_of_regAt h).symm⟩

/-! ### FIT_IDX as a packed view (R33) -/

/-- A bit of a word joined from parts is set if it is set in some part. -/
theorem getLsbD_foldl_or {α : Type} {w : Nat} (l : List α) (part : α → BitVec w) (v : BitVec w) (n : Nat) :
    (l.foldl (fun acc a => acc ||| part a) v).getLsbD n = (v.getLsbD n || l.any fun a => (part a).getLsbD n) := by
  induction l generalizing v with
  | nil => simp
  | cons a l ih => simp [ih, Bool.or_assoc]

theorem packIdx_unpackIdx (w : Word) : packIdx (unpackIdx w) = w := by
  apply BitVec.eq_of_getLsbD_eq
  intro n hn
  rw [packIdx, getLsbD_foldl_or, Bool.eq_iff_iff]
  simp only [BitVec.getLsbD_zero, Bool.false_or, List.any_eq_true, slots, List.mem_finRange, true_and, unpackIdx,
    Fin.getElem_fin, Vector.getElem_ofFn, BitVec.getLsbD_shiftLeft, BitVec.truncate_eq_setWidth, BitVec.getLsbD_setWidth,
    BitVec.getLsbD_extractLsb', Bool.and_eq_true, Bool.not_eq_true', decide_eq_true_eq, decide_eq_false_iff_not]
  constructor
  · rintro ⟨i, ⟨-, hi⟩, -, -, hbit⟩
    rwa [Nat.add_sub_cancel' (Nat.le_of_not_lt hi)] at hbit
  · intro hbit
    refine ⟨⟨n / 2, by omega⟩, ⟨hn, by dsimp only; omega⟩, by dsimp only; omega, by dsimp only; omega, ?_⟩
    rwa [show 2 * (n / 2) + (n - 2 * (n / 2)) = n by omega]

/-! ### A store, register by register (R33, R450) -/

theorem lane_setLane (v : Vec3) (c d : Fin 3) (l : F32) : (v.setLane c l).lane d = if d = c then l else v.lane d := by
  match c, d with
  | 0, 0 | 0, 1 | 0, 2 | 1, 0 | 1, 1 | 1, 2 | 2, 0 | 2, 1 | 2, 2 => rfl

/-- The low `k` bits of a word, as a masked word (R107). -/
theorem zeroExtend_low (v : Word) {k : Nat} (hk : k ≤ 32) :
    (v.extractLsb' 0 k).zeroExtend 32 = v &&& BitVec.ofNat 32 (2 ^ k - 1) := by
  have hpow : 2 ^ k ≤ 2 ^ 32 := Nat.pow_le_pow_right (by decide) hk
  have hpos : 0 < 2 ^ k := Nat.two_pow_pos k
  apply BitVec.eq_of_toNat_eq
  change (BitVec.setWidth 32 _).toNat = _
  rw [BitVec.toNat_setWidth, BitVec.extractLsb'_toNat, Nat.shiftRight_zero, BitVec.toNat_and,
    BitVec.toNat_ofNat, Nat.mod_eq_of_lt (by omega : 2 ^ k - 1 < 2 ^ 32), Nat.and_two_pow_sub_one_eq_mod]
  exact Nat.mod_eq_of_lt ((Nat.mod_lt _ hpos).trans_le hpow)

/-- The registers that a write of an idle core stores to and nothing else (all writable ones but CMD and STATUS). -/
def IsOperand (r : Reg) : Prop := readOnly r = false ∧ r ≠ .cmd ∧ r ≠ .status

theorem regValue_store_self (r : Reg) (s : State) (v : Word) :
    IsOperand r → (s.store r v).regValue r =
      (match r with | .cfg => v &&& 0x000001FF#32 | .mask => v &&& 0x0000FFFF#32 | _ => v) := by
  rintro ⟨hrw, hcmd, hstatus⟩
  cases r with
  | cfg => exact zeroExtend_low v (k := 9) (by decide)
  | mask => exact zeroExtend_low v (k := 16) (by decide)
  | texel i => exact Vector.getElem_set_self ..
  | block w => exact Vector.getElem_set_self ..
  | fitStart c => exact congrArg F32.bits ((lane_setLane ..).trans (if_pos rfl))
  | fitEnd c => exact congrArg F32.bits ((lane_setLane ..).trans (if_pos rfl))
  | fitIdx => exact packIdx_unpackIdx v
  | cmd => exact absurd rfl hcmd
  | status => exact absurd rfl hstatus
  | _ => cases hrw

theorem regValue_store_cfg {q : Reg} (hq : q ≠ .cfg) (hecfg : q ≠ .ecfg) (s : State) (v : Word) :
    (s.store .cfg v).regValue q = s.regValue q := by
  cases q with
  | cfg => exact absurd rfl hq
  | ecfg => exact absurd rfl hecfg
  | _ => rfl

theorem regValue_store_mask {q : Reg} (hq : q ≠ .mask) (s : State) (v : Word) :
    (s.store .mask v).regValue q = s.regValue q := by
  cases q with
  | mask => exact absurd rfl hq
  | _ => rfl

theorem regValue_store_texel {i : Fin 16} {q : Reg} (hq : q ≠ .texel i) (s : State) (v : Word) :
    (s.store (.texel i) v).regValue q = s.regValue q := by
  cases q with
  | texel j => exact Vector.getElem_set_ne i.isLt j.isLt fun h => hq (congrArg Reg.texel (Fin.ext h.symm))
  | _ => rfl

theorem regValue_store_block {i : Fin 4} {q : Reg} (hq : q ≠ .block i) (s : State) (v : Word) :
    (s.store (.block i) v).regValue q = s.regValue q := by
  cases q with
  | block j => exact Vector.getElem_set_ne i.isLt j.isLt fun h => hq (congrArg Reg.block (Fin.ext h.symm))
  | _ => rfl

theorem regValue_store_fitStart {c : Fin 3} {q : Reg} (hq : q ≠ .fitStart c) (s : State) (v : Word) :
    (s.store (.fitStart c) v).regValue q = s.regValue q := by
  cases q with
  | fitStart d => exact congrArg F32.bits ((lane_setLane ..).trans (if_neg fun h => hq (congrArg Reg.fitStart h)))
  | _ => rfl

theorem regValue_store_fitEnd {c : Fin 3} {q : Reg} (hq : q ≠ .fitEnd c) (s : State) (v : Word) :
    (s.store (.fitEnd c) v).regValue q = s.regValue q := by
  cases q with
  | fitEnd d => exact congrArg F32.bits ((lane_setLane ..).trans (if_neg fun h => hq (congrArg Reg.fitEnd h)))
  | _ => rfl

theorem regValue_store_fitIdx {q : Reg} (hq : q ≠ .fitIdx) (s : State) (v : Word) :
    (s.store .fitIdx v).regValue q = s.regValue q := by
  change ({ s with fit := { s.fit with idx := unpackIdx v } } : State).regValue q = _
  generalize unpackIdx v = idx
  cases q with
  | fitIdx => exact absurd rfl hq
  | _ => rfl

/-- No other register changes, but ECFG with CFG. -/
theorem regValue_store_other {r q : Reg} (hr : IsOperand r) (hq : q ≠ r) (hecfg : r = .cfg → q ≠ .ecfg) (s : State)
    (v : Word) : (s.store r v).regValue q = s.regValue q := by
  obtain ⟨hrw, hcmd, hstatus⟩ := hr
  cases r with
  | cfg => exact regValue_store_cfg hq (hecfg rfl) s v
  | mask => exact regValue_store_mask hq s v
  | texel i => exact regValue_store_texel hq s v
  | block w => exact regValue_store_block hq s v
  | fitStart c => exact regValue_store_fitStart hq s v
  | fitEnd c => exact regValue_store_fitEnd hq s v
  | fitIdx => exact regValue_store_fitIdx hq s v
  | cmd => exact absurd rfl hcmd
  | status => exact absurd rfl hstatus
  | _ => cases hrw

/-- What a store of an operand register keeps: the point-set file, the command state and the model's own fields. -/
theorem store_operand_frame {r : Reg} (hr : IsOperand r) (s : State) (v : Word) :
    s.store r v = { s with cfg := (s.store r v).cfg, mask := (s.store r v).mask, texel := (s.store r v).texel,
                           block := (s.store r v).block, fit := (s.store r v).fit } := by
  obtain ⟨hrw, hcmd, hstatus⟩ := hr
  cases r with
  | cmd => exact absurd rfl hcmd
  | status => exact absurd rfl hstatus
  | _ => rfl

/-! ### Reads, by the branch of R450 they take -/

/-- An idle core, and a read of STATUS at any time, returns the register's value. -/
theorem State.hostRead_of_readable {s : State} {off : BitVec 12} {r : Reg} (hr : regAt off = some r) (hcmd : r ≠ .cmd)
    (h : s.busy = false ∨ r = .status) : s.hostRead off = { s with rdata := s.regValue r } := by
  have htest : (s.busy && r != .status) = false := by rcases h with h | h <;> simp [h]
  simp [State.hostRead, hr, hcmd, htest]

theorem State.hostRead_of_busy {s : State} {off : BitVec 12} {r : Reg} (hr : regAt off = some r) (hcmd : r ≠ .cmd)
    (hbusy : s.busy = true) (hstatus : r ≠ .status) :
    s.hostRead off = { s with rdata := Config.busyRead s.oracle, oracle := s.oracle + 1 } := by
  simp [State.hostRead, hr, hcmd, hbusy, hstatus]

/-- No register shows the model's own fields. -/
@[simp] theorem regValue_with_rdata (s : State) (v : Word) (r : Reg) :
    ({ s with rdata := v } : State).regValue r = s.regValue r := by
  cases r <;> rfl

/-- Settles O7. Store and read-back go register by register; the rest of the state is the frame of the store. -/
theorem writtenRegisterReadsBack : Obligations.WrittenRegisterReadsBack := by
  rintro s r v hidle hrw hcmd hstatus t rfl
  have hr : IsOperand r := ⟨hrw, hcmd, hstatus⟩
  rw [State.hostWrite_of_idle (regAt_regOffset r) hrw hidle]
  have hframe := store_operand_frame hr s v
  have hidle' : (s.store r v).busy = false := by rw [hframe]; exact hidle
  refine ⟨?readBack, fun q hne hecfg => regValue_store_other hr hne hecfg s v, ?_, hidle', ?_, ?_, ?_, ?_⟩
  case readBack =>
    rw [State.hostRead_of_readable (regAt_regOffset r) hcmd (.inl hidle')]
    exact regValue_store_self r s v hr
  all_goals rw [hframe]

/-- Settles O11. A read of a register leaves no trace but the read data, which no register shows. -/
theorem readsHaveNoEffect : Obligations.ReadsHaveNoEffect := by
  intro s r hcmd
  refine ⟨fun h => ?_, fun hbusy hstatus => State.hostRead_of_busy (regAt_regOffset r) hcmd hbusy hstatus⟩
  have hread := State.hostRead_of_readable (regAt_regOffset r) hcmd h
  refine ⟨hread, ?_⟩
  rw [hread]
  refine (State.hostRead_of_readable (s := { s with rdata := s.regValue r }) (regAt_regOffset r) hcmd h).trans ?_
  exact congrArg (fun v => { s with rdata := v }) (regValue_with_rdata s _ r)

/-! ### Writes to a busy core (R453, R490) -/

theorem State.hostWrite_of_busy {s : State} {off : BitVec 12} {r : Reg} (hr : regAt off = some r) (hrw : readOnly r = false)
    (hbusy : s.busy = true) (hstatus : r ≠ .status) (v : Word) : s.hostWrite off v = s.raise .busy := by
  simp [State.hostWrite, hr, hrw, hbusy, hstatus]

theorem State.hostWrite_status (s : State) (v : Word) : s.hostWrite 0x00C#12 v = s.writeStatus v := by
  simp [State.hostWrite, show regAt 0x00C#12 = some .status from regAt_regOffset .status, readOnly, State.store]

theorem ne_status_of_regAt {off : BitVec 12} {r : Reg} (hr : regAt off = some r) (hoff : off ≠ 0x00C#12) : r ≠ .status := by
  rintro rfl
  exact hoff (BitVec.eq_of_toNat_eq (regOffset_of_regAt hr).symm)

/-- Settles O10. The three errors are the tests of R453 in their order. -/
theorem busyWritesRefused : Obligations.BusyWritesRefused := by
  intro s off v hbusy hoff
  cases hr : regAt off with
  | none =>
    rw [State.hostWrite_of_regAt_none hr]
    rfl
  | some r =>
    have hstatus := ne_status_of_regAt hr hoff
    cases hro : readOnly r with
    | true =>
      rw [State.hostWrite_of_readOnly hr hro]
      simp [State.raise, hro, errorCode]
    | false =>
      rw [State.hostWrite_of_busy hr hro hbusy hstatus]
      simp [State.raise, hro, errorCode]

/-- Settles O13. A write to STATUS reaches `writeStatus` whatever the busy flag says. -/
theorem statusWrite : Obligations.StatusWrite := by
  intro s v
  rw [State.hostWrite_status, State.writeStatus]
  cases v.getLsbD 1 <;> cases v.getLsbD 2 <;> simp

end Sys2Proof.Machine
end

section
/-! PROOFS. The status views (`10_state.md` R40 to R42) field by field, and the reset (R60, R480, R481). -/

namespace Sys2Proof.Machine

/-! ### A register word as a number, and its fields -/

theorem toNat_append_add {v w : Nat} (x : BitVec v) (y : BitVec w) : (x ++ y).toNat = x.toNat * 2 ^ w + y.toNat := by
  rw [BitVec.toNat_append, ← Nat.shiftLeft_add_eq_or_of_lt y.isLt, Nat.shiftLeft_eq]

/-- A one-bit field of a word is set if its bit of the number is 1. -/
theorem getLsbD_eq_of_toNat {w : Word} {k : Nat} {b : Bool} (h : w.toNat / 2 ^ k % 2 = b.toNat) : w.getLsbD k = b := by
  rw [BitVec.getLsbD, Nat.testBit_eq_decide_div_mod_eq, h]
  cases b <;> rfl

/-- A field of a word holds the digits of the number at its place. -/
theorem extractLsb'_eq_of_toNat {w : Word} {k n : Nat} {x : BitVec n} (h : w.toNat / 2 ^ k % 2 ^ n = x.toNat) :
    w.extractLsb' k n = x := by
  apply BitVec.eq_of_toNat_eq
  rw [BitVec.extractLsb'_toNat, Nat.shiftRight_eq_div_pow, h]

theorem toNat_status (s : State) : s.status.toNat =
    s.lastop.toNat * 256 + (if s.err then s.ecode else 0#4).toNat * 16 + s.err.toNat * 4 + s.done.toNat * 2 + s.busy.toNat := by
  unfold State.status
  generalize (if s.err then s.ecode else 0#4) = c
  simp only [toNat_append_add, BitVec.toNat_ofBool, BitVec.toNat_ofNat]
  omega

theorem toNat_psInfo (s : State) : s.psInfo.toNat =
    s.ps.cfg.toNat * 65536 + s.ps.valid.toNat * 512 + s.ps.transparent.toNat * 256 + s.ps.count % 32 := by
  unfold State.psInfo
  simp only [toNat_append_add, BitVec.toNat_ofBool, BitVec.toNat_ofNat]
  omega

theorem toNat_fitInfo (s : State) : s.fitInfo.toNat =
    s.bestIter % 8 * 256 + s.iters % 16 * 16 + s.fit.mode4.toNat * 8 + s.fit.valid.toNat * 4 + s.fit.kind.code.toNat := by
  unfold State.fitInfo
  simp only [toNat_append_add, BitVec.toNat_ofBool, BitVec.toNat_ofNat]
  omega

/-- The fields of STATUS (R40). -/
theorem status_fields (s : State) :
    s.status.getLsbD 0 = s.busy ∧ s.status.getLsbD 1 = s.done ∧ s.status.getLsbD 2 = s.err ∧ s.status.getLsbD 3 = false ∧
    s.status.extractLsb' 4 4 = (if s.err then s.ecode else 0#4) ∧ s.status.extractLsb' 8 8 = s.lastop ∧
    s.status.extractLsb' 16 16 = 0#16 := by
  have hword := toNat_status s
  have hcode := (if s.err then s.ecode else 0#4).isLt
  generalize (if s.err then s.ecode else 0#4) = c at hword hcode ⊢
  have := s.lastop.isLt; have := s.busy.toNat_lt; have := s.done.toNat_lt; have := s.err.toNat_lt
  refine ⟨getLsbD_eq_of_toNat ?_, getLsbD_eq_of_toNat ?_, getLsbD_eq_of_toNat ?_, getLsbD_eq_of_toNat ?_,
    extractLsb'_eq_of_toNat ?_, extractLsb'_eq_of_toNat ?_, extractLsb'_eq_of_toNat ?_⟩
  case refine_4 => rw [Bool.toNat_false]; omega
  case refine_7 => rw [BitVec.toNat_ofNat]; omega
  all_goals omega

/-- The fields of PSINFO (R41). -/
theorem psInfo_fields (s : State) :
    (s.ps.count ≤ 16 → (s.psInfo.extractLsb' 0 5).toNat = s.ps.count) ∧ s.psInfo.getLsbD 8 = s.ps.transparent ∧
    s.psInfo.getLsbD 9 = s.ps.valid ∧ s.psInfo.extractLsb' 16 9 = s.ps.cfg ∧ s.psInfo.extractLsb' 5 3 = 0#3 ∧
    s.psInfo.extractLsb' 10 6 = 0#6 ∧ s.psInfo.extractLsb' 25 7 = 0#7 := by
  have hword := toNat_psInfo s
  have := s.ps.cfg.isLt; have := s.ps.valid.toNat_lt; have := s.ps.transparent.toNat_lt
  refine ⟨fun hcount => ?_, getLsbD_eq_of_toNat ?_, getLsbD_eq_of_toNat ?_, extractLsb'_eq_of_toNat ?_,
    extractLsb'_eq_of_toNat ?_, extractLsb'_eq_of_toNat ?_, extractLsb'_eq_of_toNat ?_⟩
  case refine_1 => rw [BitVec.extractLsb'_toNat, Nat.shiftRight_zero]; omega
  case refine_5 | refine_6 | refine_7 => rw [BitVec.toNat_ofNat]; omega
  all_goals omega

/-- The fields of FITINFO (R42). -/
theorem fitInfo_fields (s : State) :
    s.fitInfo.extractLsb' 0 2 = s.fit.kind.code ∧ s.fitInfo.getLsbD 2 = s.fit.valid ∧ s.fitInfo.getLsbD 3 = s.fit.mode4 ∧
    s.fitInfo.extractLsb' 11 21 = 0#21 ∧ (s.iters ≤ 8 → (s.fitInfo.extractLsb' 4 4).toNat = s.iters) ∧
    (s.bestIter ≤ 7 → (s.fitInfo.extractLsb' 8 3).toNat = s.bestIter) := by
  have hword := toNat_fitInfo s
  have := s.fit.kind.code.isLt; have := s.fit.valid.toNat_lt; have := s.fit.mode4.toNat_lt
  refine ⟨extractLsb'_eq_of_toNat ?_, getLsbD_eq_of_toNat ?_, getLsbD_eq_of_toNat ?_, extractLsb'_eq_of_toNat ?_,
    fun hiters => ?_, fun hbest => ?_⟩
  case refine_4 => rw [BitVec.toNat_ofNat]; omega
  case refine_5 | refine_6 => rw [BitVec.extractLsb'_toNat, Nat.shiftRight_eq_div_pow]; omega
  all_goals omega

/-- Settles O12. Each clause is a field of one of the three views. -/
theorem statusViews : Obligations.StatusViews := by
  intro s
  obtain ⟨hbusy, hdone, herr, hzero, hcode, hlastop, htop⟩ := status_fields s
  obtain ⟨hcount, htransparent, hvalid, hcfg, hgap, hgap', hpsTop⟩ := psInfo_fields s
  obtain ⟨hkind, hfit, hmode, hfitTop, hiters, hbest⟩ := fitInfo_fields s
  have hkind' : s.fitInfo.extractLsb' 0 2 =
      (match s.fit.kind with | .none => 0#2 | .single => 1#2 | .range => 2#2 | .cluster => 3#2) := by
    rw [hkind]
    cases s.fit.kind <;> rfl
  exact ⟨hbusy, hdone, herr, hzero, hcode, hlastop, htop, hcount, htransparent, hvalid, hcfg, hgap, hgap', hpsTop, hkind',
    hfit, hmode, hfitTop, hiters, hbest⟩

/-! ### Reset (R60, R480, R481) -/

theorem regValue_reset (r : Reg) : State.reset.regValue r = if r = .ecfg then 0x029#32 else 0#32 := by
  cases r with
  | texel i => exact Vector.getElem_replicate _
  | block w => exact Vector.getElem_replicate _
  | fitStart c => revert c; decide
  | fitEnd c => revert c; decide
  | psPoint k c =>
    have hpoint : State.reset.ps.point[k] = zeroVec3 := Vector.getElem_replicate _
    change ((State.reset.ps.point[k]).lane c).bits = 0#32
    rw [hpoint]
    revert c
    decide
  | psWeight k => exact congrArg F32.bits (Vector.getElem_replicate (α := F32) _)
  | order m => revert m; decide
  | _ => decide

/-- No register shows the model's own fields. -/
theorem regValue_with_own (s : State) (es : List Event) (n : Nat) (v : Word) (r : Reg) :
    ({ s with events := es, oracle := n, rdata := v } : State).regValue r = s.regValue r := by
  cases r <;> rfl

/-- Settles O15. The reset event ignores the state but for the model's own fields, which no register shows. -/
theorem resetState : Obligations.ResetState := by
  intro s rest hevents
  refine ⟨{ State.reset with events := rest, oracle := s.oracle, rdata := s.rdata }, ?_, rfl, rfl, rfl, rfl, rfl,
    fun i => Vector.getElem_replicate _, fun r => ?_⟩
  · rw [step, hevents]
    rfl
  · rw [regValue_with_own, regValue_reset]

/-- Settles O18. Each field of the invariant is a fact about the reset values; the reset point-set file has no point. -/
theorem invariantAtReset : Obligations.InvariantAtReset where
  ecodeClear := by decide
  ecodeLegal := by decide
  lastopPending := by decide
  pendingListed := by decide
  busyNotDone := by decide
  psCount := by decide
  psRemap := by decide
  psPoint := fun _ hk => absurd hk (Nat.not_lt_zero _)
  psUnused := by decide
  psCfg := by decide
  psInvalid := by decide
  iters := by decide
  bestIter := by decide
  order := by decide

end Sys2Proof.Machine
end

section
/-! PROOFS. What a fit can change (R233, R235, R280, R310, R415): the state it leaves, relative to the state it starts from, as
one relation that every trial keeps. -/

namespace Sys2Proof.Machine

/-! ### The two halves of the block buffer (R32, R233) -/

/-- The bytes of the block buffer depend on the block registers alone. -/
theorem blockByte_congr {s t : State} (h : t.block = s.block) (n : Fin 16) : t.blockByte n = s.blockByte n := by
  simp only [State.blockByte, h]

theorem blockHalf_congr {s t : State} (h : t.block = s.block) (high : Bool) : t.blockHalf high = s.blockHalf high := by
  simp only [State.blockHalf, blockByte_congr h]

theorem writeBlockHalf_block_congr {s t : State} (h : t.block = s.block) (high : Bool) (b : Vector Byte 8) :
    (t.writeBlockHalf high b).block = (s.writeBlockHalf high b).block := by
  simp only [State.writeBlockHalf, h]

/-- Of two writes of one half only the later one shows. -/
theorem writeBlockHalf_writeBlockHalf {s t : State} {high : Bool} {b : Vector Byte 8}
    (h : t.block = (s.writeBlockHalf high b).block) (b' : Vector Byte 8) :
    (t.writeBlockHalf high b').block = (s.writeBlockHalf high b').block := by
  apply block_ext
  intro n
  rw [blockByte_writeBlockHalf, blockByte_writeBlockHalf, blockByte_congr h, blockByte_writeBlockHalf]
  split <;> simp_all

/-- Writing what a half holds changes nothing. -/
theorem writeBlockHalf_blockHalf (s : State) (high : Bool) : s.writeBlockHalf high (s.blockHalf high) = s := by
  have hblock : (s.writeBlockHalf high (s.blockHalf high)).block = s.block := by
    apply block_ext
    intro n
    rw [blockByte_writeBlockHalf]
    split
    · next h =>
      simp only [State.blockHalf, Vector.getElem_ofFn]
      congr 1
      apply Fin.ext
      subst h
      simp only [decide_eq_true_eq]
      split <;> omega
    · rfl
  exact congrArg (fun b => { s with block := b }) hblock

/-! ### The state a fit leaves -/

/-- What a fit command of kind `kind`, started in `s`, has done when it is in state `t`: either no candidate is written and block and
fit-result file are as they were, or one is and the colour half holds its packing. -/
structure FitState (s : State) (kind : FitKind) (t : State) : Prop where
  frame : t = { s with
    block := t.block, fit := t.fit, besterr := t.besterr, besterrI := t.besterrI, iters := t.iters,
    bestIter := t.bestIter, order := t.order }
  hasKind : t.fit.kind = kind
  unwritten : t.fit.valid = false → t.block = s.block ∧ t.fit = { s.fit with kind := kind, valid := false }
  written : t.fit.valid = true →
    t.block = (s.writeBlockHalf (colourHigh s.ps.cfg)
      (candidateBytes t.fit.mode4 t.fit.start t.fit.stop t.fit.idx)).block

namespace FitState

variable {s t : State} {kind : FitKind}

theorem ps_eq (h : FitState s kind t) : t.ps = s.ps := by rw [h.frame]

/-- The errors, the counters and the history are the fit's to write. -/
theorem withCounters (h : FitState s kind t) (e : F32) (ei : Word) (n b : Nat) (o : Vector Byte 128) :
    FitState s kind { t with besterr := e, besterrI := ei, iters := n, bestIter := b, order := o } where
  frame := by
    have hframe := h.frame
    generalize t.block = block, t.fit = fit, t.besterr = e', t.besterrI = ei', t.iters = n', t.bestIter = b', t.order = o'
      at hframe
    rw [hframe]
  hasKind := h.hasKind
  unwritten := h.unwritten
  written := h.written

/-- The opening of a fit command drops the candidate there was. -/
theorem beginFit (s : State) (kind : FitKind) : FitState s kind (s.beginFit kind) where
  frame := rfl
  hasKind := rfl
  unwritten _ := ⟨rfl, rfl⟩
  written h := Bool.noConfusion h

/-- The block after a candidate is written does not show an earlier candidate. -/
theorem writeBlockHalf_block (h : FitState s kind t) (b : Vector Byte 8) :
    (t.writeBlockHalf (colourHigh s.ps.cfg) b).block = (s.writeBlockHalf (colourHigh s.ps.cfg) b).block := by
  cases hv : t.fit.valid with
  | false => exact writeBlockHalf_block_congr (h.unwritten hv).1 _ _
  | true => exact writeBlockHalf_writeBlockHalf (h.written hv) _

theorem writeCandidate (h : FitState s kind t) (mode4 : Bool) (start stop : Vec3) (idx : Vector (BitVec 2) 16) :
    FitState s kind (t.writeCandidate mode4 start stop idx) where
  frame := by
    have hframe := h.frame
    unfold State.writeCandidate State.writeBlockHalf
    generalize t.block = block, t.fit = fit, t.besterr = e', t.besterrI = ei', t.iters = n', t.bestIter = b', t.order = o'
      at hframe
    rw [hframe]
  hasKind := h.hasKind
  unwritten h := Bool.noConfusion h
  written _ := by
    rw [State.writeCandidate_block, h.ps_eq]
    exact h.writeBlockHalf_block _

/-- Bytes outside the colour half of the latched flags are kept (R233). -/
theorem blockByte_eq (h : FitState s kind t) {n : Fin 16} (hn : decide (8 ≤ n.val) ≠ colourHigh s.ps.cfg) :
    t.blockByte n = s.blockByte n := by
  cases hv : t.fit.valid with
  | false => exact blockByte_congr (h.unwritten hv).1 n
  | true => rw [blockByte_congr (h.written hv), blockByte_writeBlockHalf, if_neg hn]

/-- The colour half holds the packing of the candidate. -/
theorem blockHalf_eq (h : FitState s kind t) (hv : t.fit.valid = true) :
    t.blockHalf (colourHigh s.ps.cfg) = candidateBytes t.fit.mode4 t.fit.start t.fit.stop t.fit.idx := by
  rw [blockHalf_congr (h.written hv), blockHalf_writeBlockHalf_same]

end FitState

/-! ### What candidate writes keep, the range fit and the single-colour fit keep (R232, R235, R305, R310) -/

/-- A property of states that a candidate write keeps. -/
def KeptByCandidates (P : State → Prop) : Prop :=
  ∀ (t : State) (mode4 : Bool) (start stop : Vec3) (idx : Vector (BitVec 2) 16),
    P t → P (t.writeCandidate mode4 start stop idx)

theorem rangeTrial_keeps {P : State → Prop} (hP : KeptByCandidates P) (mode4 : Bool) (start stop : Vec3) (codes : List Vec3)
    (x : State × F32) (hx : P x.1) : P (rangeTrial mode4 start stop codes x).1 := by
  rcases rangeTrial_cases mode4 start stop codes x _ rfl with ⟨-, h⟩ | ⟨-, h⟩ <;> rw [h]
  · exact hx
  · exact hP _ _ _ _ _ hx

theorem singleTrial_keeps {P : State → Prop} (hP : KeptByCandidates P) (p : Params) (mode4 : Bool) (col : SingleColour)
    (x : State × Nat) (hx : P x.1) : P (singleTrial p mode4 col x).1 := by
  rcases singleTrial_cases p mode4 col x _ rfl with ⟨-, h⟩ | ⟨-, h⟩ <;> rw [h]
  · exact hx
  · exact hP _ _ _ _ _ hx

theorem fitRangeRun_keeps {P : State → Prop} (hP : KeptByCandidates P) (herr : ∀ t e, P t → P { t with besterr := e })
    (p : Params) (s : State) (h : P (s.beginFit .range)) : P (fitRangeRun p s) :=
  herr _ _ (fitTrial_preserves (fun x => P x.1) _ _ _ _ (rangeTrial_keeps hP _ _ _ _) (rangeTrial_keeps hP _ _ _ _)
    (s.beginFit .range, F32.fltMax) h)

theorem fitSingleRun_keeps {P : State → Prop} (hP : KeptByCandidates P) (herr : ∀ t e, P t → P { t with besterrI := e })
    (p : Params) (s : State) (h : P (s.beginFit .single)) : P (fitSingleRun p s) :=
  herr _ _ (fitTrial_preserves (fun x => P x.1) _ _ _ _ (singleTrial_keeps hP _ _ _) (singleTrial_keeps hP _ _ _)
    (s.beginFit .single, 2 ^ 31 - 1) h)

/-! ### Every fit run leaves a state of the relation (R235, R280, R310, R415) -/

theorem fitRangeRun_state (p : Params) (s : State) : FitState s .range (fitRangeRun p s) :=
  fitRangeRun_keeps (fun _ _ _ _ _ h => h.writeCandidate ..) (fun _ _ h => h.withCounters ..) p s (FitState.beginFit s _)

theorem fitSingleRun_state (p : Params) (s : State) : FitState s .single (fitSingleRun p s) :=
  fitSingleRun_keeps (fun _ _ _ _ _ h => h.writeCandidate ..) (fun _ _ h => h.withCounters ..) p s (FitState.beginFit s _)

theorem FitState.clusterTrial {s : State} {kind : FitKind} {x : State × F32} (h : FitState s kind x.1)
    (size : CodebookSize) (axis : Vec3) : FitState s kind (clusterTrial size axis x).1 := by
  rcases clusterTrial_cases size axis x _ _ rfl rfl with ⟨-, hx⟩ | ⟨-, hx⟩ <;> rw [hx]
  · exact h.withCounters ..
  · exact ((h.withCounters ..).writeCandidate ..).withCounters ..

theorem fitClusterRun_state (p : Params) (s : State) : FitState s .cluster (fitClusterRun p s) :=
  (fitTrial_preserves (fun x => FitState s .cluster x.1) _ _ _ _ (fun _ h => h.clusterTrial ..) (fun _ h => h.clusterTrial ..)
    (s.beginFit .cluster, F32.fltMax) (FitState.beginFit s .cluster)).withCounters ..

/-- What the dispatcher runs (R415). -/
theorem fitAutoRun_cases (p : Params) (s : State) :
    (s.ps.count = 1 ∧ fitAutoRun p s = fitSingleRun p s) ∨
    (s.ps.count ≠ 1 ∧ (isRange s.ps.cfg = true ∨ s.ps.count = 0) ∧ fitAutoRun p s = fitRangeRun p s) ∨
    (s.ps.count ≠ 1 ∧ ¬ (isRange s.ps.cfg = true ∨ s.ps.count = 0) ∧ fitAutoRun p s = fitClusterRun p s) := by
  unfold fitAutoRun
  by_cases hone : s.ps.count = 1
  · simp [hone]
  · by_cases hrange : isRange s.ps.cfg = true ∨ s.ps.count = 0
    · exact .inr (.inl ⟨hone, hrange, by rw [if_neg hone, if_pos (by simpa using hrange)]⟩)
    · exact .inr (.inr ⟨hone, hrange, by rw [if_neg hone, if_neg (by simpa using hrange)]⟩)

theorem fitAutoRun_state (p : Params) (s : State) : ∃ kind, FitState s kind (fitAutoRun p s) := by
  rcases fitAutoRun_cases p s with ⟨-, h⟩ | ⟨-, -, h⟩ | ⟨-, -, h⟩ <;> rw [h]
  · exact ⟨_, fitSingleRun_state p s⟩
  · exact ⟨_, fitRangeRun_state p s⟩
  · exact ⟨_, fitClusterRun_state p s⟩

/-! ### The registers each kind of fit leaves alone -/

/-- The counters and the ordering history of two states agree. -/
def SameCounters (s t : State) : Prop := t.iters = s.iters ∧ t.bestIter = s.bestIter ∧ t.order = s.order

theorem fitRangeRun_other (p : Params) (s : State) :
    (fitRangeRun p s).besterrI = s.besterrI ∧ SameCounters s (fitRangeRun p s) :=
  fitRangeRun_keeps (P := fun t => t.besterrI = s.besterrI ∧ SameCounters s t) (fun _ _ _ _ _ h => h) (fun _ _ h => h) p s
    ⟨rfl, rfl, rfl, rfl⟩

theorem fitSingleRun_other (p : Params) (s : State) :
    (fitSingleRun p s).besterr = s.besterr ∧ SameCounters s (fitSingleRun p s) :=
  fitSingleRun_keeps (P := fun t => t.besterr = s.besterr ∧ SameCounters s t) (fun _ _ _ _ _ h => h) (fun _ _ h => h) p s
    ⟨rfl, rfl, rfl, rfl⟩

theorem fitClusterRun_other (p : Params) (s : State) : (fitClusterRun p s).besterrI = s.besterrI := by
  have htrial (size : CodebookSize) (axis : Vec3) (x : State × F32) (hx : x.1.besterrI = s.besterrI) :
      (clusterTrial size axis x).1.besterrI = s.besterrI := by
    rcases clusterTrial_cases size axis x _ _ rfl rfl with ⟨-, h⟩ | ⟨-, h⟩ <;> rw [h] <;> exact hx
  exact fitTrial_preserves (fun x => x.1.besterrI = s.besterrI) _ _ _ _ (htrial _ _) (htrial _ _)
    (s.beginFit .cluster, F32.fltMax) rfl

/-! ### The bounds of the counters and of the history (R42, R48, R272) -/

/-- The invariant's bounds on what the cluster fit counts and records. -/
structure CountersInRange (s : State) : Prop where
  iters : s.iters ≤ 8
  bestIter : s.bestIter ≤ 7
  order : ∀ n : Fin 128, (s.order[n]).toNat < 16

theorem iterCount_le (f : BitVec 9) : iterCount f ≤ 8 := by
  unfold iterCount
  split <;> decide

theorem CountersInRange.clusterTrial {x : State × F32} (h : CountersInRange x.1) (size : CodebookSize) (axis : Vec3) :
    CountersInRange (clusterTrial size axis x).1 := by
  obtain ⟨-, htried, hit, horder⟩ := clusterSearch_spec size x.1.ps.cfg x.1.ps.used axis x.1.order x.2 16 (by decide)
    (used_length_le _) h.order
  have hcount := iterCount_le x.1.ps.cfg
  rcases clusterTrial_cases size axis x _ _ rfl rfl with ⟨-, hx⟩ | ⟨-, hx⟩ <;> rw [hx]
  · exact ⟨by dsimp only; omega, h.bestIter, horder⟩
  · exact ⟨by dsimp only [State.writeCandidate_iters]; omega, by dsimp only; omega, horder⟩

theorem CountersInRange.of_same {s t : State} (h : CountersInRange s) (hst : SameCounters s t) : CountersInRange t := by
  obtain ⟨hiters, hbest, horder⟩ := hst
  exact ⟨hiters ▸ h.iters, hbest ▸ h.bestIter, horder ▸ h.order⟩

theorem CountersInRange.fitClusterRun {s : State} (h : CountersInRange s) (p : Params) :
    CountersInRange (fitClusterRun p s) := by
  obtain ⟨hiters, hbest, horder⟩ := fitTrial_preserves (fun x => CountersInRange x.1) _ _ _ _
    (fun _ h => h.clusterTrial .three _) (fun _ h => h.clusterTrial .four _) (s.beginFit .cluster, F32.fltMax)
    ⟨h.iters, h.bestIter, h.order⟩
  exact ⟨hiters, hbest, horder⟩

theorem CountersInRange.fitAutoRun {s : State} (h : CountersInRange s) (p : Params) : CountersInRange (fitAutoRun p s) := by
  rcases fitAutoRun_cases p s with ⟨-, hrun⟩ | ⟨-, -, hrun⟩ | ⟨-, -, hrun⟩ <;> rw [hrun]
  · exact h.of_same (fitSingleRun_other p s).2
  · exact h.of_same (fitRangeRun_other p s).2
  · exact h.fitClusterRun p

end Sys2Proof.Machine
end

section
/-! PROOFS. How every command ends (R450 to R454) and what it leaves unchanged: one equation for the outcome of a command, and
the frame of the state it computes. -/

namespace Sys2Proof.Machine

/-! ### The outcome of a command (R451 to R454) -/

/-- The state a command's pseudocode leaves where its step error is not due. -/
def commandRun (i : Instr) (s : State) : State :=
  match i with
  | .nop => s
  | .compress => compressRun Config.params 0xFFFF#16 s
  | .compressMasked => compressRun Config.params s.mask s
  | .decompress => s.writeTexels (decompressTexels Config.params s)
  | .clear => s.cleared
  | .psBuild => s.withPointSet s.mask
  | .fitAuto => fitAutoRun Config.params s
  | .fitSingle => fitSingleRun Config.params s
  | .fitRange => fitRangeRun Config.params s
  | .fitCluster => fitClusterRun Config.params s
  | .pack3 =>
    s.writeBlockHalf (colourHigh (normalise s.cfg)) (writeColourBlock3 s.fit.start s.fit.stop s.fit.idx)
  | .pack4 =>
    s.writeBlockHalf (colourHigh (normalise s.cfg)) (writeColourBlock4 s.fit.start s.fit.stop s.fit.idx)
  | .colourDec =>
    s.writeTexels (decodeColour Config.params.bc23ColourMode (s.blockHalf (colourHigh (normalise s.cfg)))
      (isBC1 (normalise s.cfg)))
  | .alpha3Enc => s.putAlpha3 s.mask
  | .alpha3Dec => s.writeAlphas (decodeAlpha3 (s.blockHalf false))
  | .alpha5Enc => s.putAlpha5 Config.params s.mask
  | .alpha5Dec => s.writeAlphas (decodeAlpha5 (s.blockHalf false))

/-- A command's pseudocode raises its step error where it is due, and else leaves the state of `commandRun`. -/
theorem commandBody_eq (i : Instr) (s : State) :
    commandBody i s = match stepError i s with | some c => .error c | none => .ok (commandRun i s) := by
  cases i with
  | fitAuto =>
    simp only [commandBody, fitAutoBody, stepError, commandRun]
    split <;> rfl
  | fitRange =>
    simp only [commandBody, fitRangeBody, stepError, commandRun]
    split <;> rfl
  | fitCluster =>
    simp only [commandBody, fitClusterBody, stepError, commandRun]
    split <;> rfl
  | fitSingle =>
    simp only [commandBody, fitSingleBody, stepError, commandRun]
    split
    · split <;> rfl
    · rfl
  | pack3 =>
    simp only [commandBody, pack3Body, stepError, commandRun, endpointsFinite_eq]
    split <;> rfl
  | pack4 =>
    simp only [commandBody, pack4Body, stepError, commandRun, endpointsFinite_eq]
    split <;> rfl
  | _ => rfl

theorem exec_of_due {i : Instr} {s : State} {c : ErrorCode} (h : stepError i s = some c) : exec i s = .next (s.abort c) := by
  rw [exec_eq_runCommand]
  exact runCommand_error (by rw [commandBody_eq, h])

theorem exec_of_not_due {i : Instr} {s : State} (h : stepError i s = none) :
    exec i s = .next (commandRun i s).complete := by
  rw [exec_eq_runCommand]
  exact runCommand_ok (by rw [commandBody_eq, h])

/-- The two ways a command ends. -/
theorem exec_outcome {i : Instr} {s t : State} (h : exec i s = .next t) :
    (stepError i s = none ∧ t = (commandRun i s).complete) ∨ ∃ c, stepError i s = some c ∧ t = s.abort c := by
  cases hdue : stepError i s with
  | none =>
    rw [exec_of_not_due hdue] at h
    exact .inl ⟨rfl, (Host.Outcome.next.inj h).symm⟩
  | some c =>
    rw [exec_of_due hdue] at h
    exact .inr ⟨c, rfl, (Host.Outcome.next.inj h).symm⟩

/-- R451: a command step raises one of three errors. -/
theorem stepError_range (i : Instr) (s : State) :
    stepError i s = none ∨ stepError i s = some .noPs ∨ stepError i s = some .count ∨ stepError i s = some .operand := by
  cases i with
  | fitAuto | fitRange | fitCluster =>
    simp only [stepError]
    split <;> simp
  | fitSingle =>
    simp only [stepError]
    split
    · split <;> simp
    · simp
  | pack3 | pack4 =>
    simp only [stepError]
    split <;> simp
  | _ => exact .inl rfl

/-! ### The control fields, which no command's pseudocode writes (R35, R36, R450, R454) -/

/-- CFG, MASK, the status fields, the pending command and the model's own fields of two states agree. -/
structure SameControl (s t : State) : Prop where
  cfg : t.cfg = s.cfg
  mask : t.mask = s.mask
  done : t.done = s.done
  err : t.err = s.err
  ecode : t.ecode = s.ecode
  lastop : t.lastop = s.lastop
  busy : t.busy = s.busy
  pending : t.pending = s.pending
  events : t.events = s.events
  oracle : t.oracle = s.oracle
  rdata : t.rdata = s.rdata

theorem SameControl.refl (s : State) : SameControl s s := ⟨rfl, rfl, rfl, rfl, rfl, rfl, rfl, rfl, rfl, rfl, rfl⟩

theorem SameControl.trans {s t u : State} (h : SameControl s t) (h' : SameControl t u) : SameControl s u where
  cfg := h'.cfg.trans h.cfg
  mask := h'.mask.trans h.mask
  done := h'.done.trans h.done
  err := h'.err.trans h.err
  ecode := h'.ecode.trans h.ecode
  lastop := h'.lastop.trans h.lastop
  busy := h'.busy.trans h.busy
  pending := h'.pending.trans h.pending
  events := h'.events.trans h.events
  oracle := h'.oracle.trans h.oracle
  rdata := h'.rdata.trans h.rdata

theorem FitState.sameControl {s t : State} {kind : FitKind} (h : FitState s kind t) : SameControl s t := by
  rw [h.frame]
  exact ⟨rfl, rfl, rfl, rfl, rfl, rfl, rfl, rfl, rfl, rfl, rfl⟩

/-- A fit reads its operands and keeps them. -/
theorem FitState.sameOperands {s t : State} {kind : FitKind} (h : FitState s kind t) :
    t.texel = s.texel ∧ t.ps = s.ps ∧ t.aerr5 = s.aerr5 ∧ t.aerr7 = s.aerr7 := by
  rw [h.frame]
  exact ⟨rfl, rfl, rfl, rfl⟩

theorem withPointSet_sameControl (s : State) (m : BitVec 16) : SameControl s (s.withPointSet m) :=
  ⟨rfl, rfl, rfl, rfl, rfl, rfl, rfl, rfl, rfl, rfl, rfl⟩

/-- The alpha part of a compression, by format (R411). -/
theorem putAlpha_cases (p : Params) (s : State) (f : BitVec 9) (m : BitVec 16) :
    (isBC2 f = false ∧ isBC3 f = false ∧ s.putAlpha p f m = s) ∨
    (isBC2 f = true ∧ isBC3 f = false ∧ s.putAlpha p f m = s.putAlpha3 m) ∨
    (isBC2 f = false ∧ isBC3 f = true ∧ s.putAlpha p f m = s.putAlpha5 p m) ∨
    (isBC2 f = true ∧ isBC3 f = true ∧ s.putAlpha p f m = (s.putAlpha3 m).putAlpha5 p m) := by
  unfold State.putAlpha
  cases isBC2 f <;> cases isBC3 f <;> simp

theorem putAlpha_sameControl (p : Params) (s : State) (f : BitVec 9) (m : BitVec 16) :
    SameControl s (s.putAlpha p f m) := by
  rcases putAlpha_cases p s f m with ⟨-, -, h⟩ | ⟨-, -, h⟩ | ⟨-, -, h⟩ | ⟨-, -, h⟩ <;> rw [h] <;>
    exact ⟨rfl, rfl, rfl, rfl, rfl, rfl, rfl, rfl, rfl, rfl, rfl⟩

theorem compressRun_sameControl (p : Params) (m : BitVec 16) (s : State) : SameControl s (compressRun p m s) := by
  obtain ⟨kind, hfit⟩ := fitAutoRun_state p (s.withPointSet m)
  exact ((withPointSet_sameControl s m).trans hfit.sameControl).trans (putAlpha_sameControl ..)

theorem writeTexels_sameControl (s : State) (out : Vector Rgba 16) : SameControl s (s.writeTexels out) := by
  constructor <;> simp

theorem writeAlphas_sameControl (s : State) (a : Vector Byte 16) : SameControl s (s.writeAlphas a) := by
  constructor <;> simp

theorem writeBlockHalf_sameControl (s : State) (high : Bool) (b : Vector Byte 8) : SameControl s (s.writeBlockHalf high b) :=
  ⟨rfl, rfl, rfl, rfl, rfl, rfl, rfl, rfl, rfl, rfl, rfl⟩

theorem putAlpha5_sameControl (p : Params) (s : State) (m : BitVec 16) : SameControl s (s.putAlpha5 p m) :=
  ⟨rfl, rfl, rfl, rfl, rfl, rfl, rfl, rfl, rfl, rfl, rfl⟩

theorem commandRun_sameControl (i : Instr) (s : State) : SameControl s (commandRun i s) := by
  cases i with
  | compress => exact compressRun_sameControl ..
  | compressMasked => exact compressRun_sameControl ..
  | fitAuto =>
    obtain ⟨kind, hfit⟩ := fitAutoRun_state Config.params s
    exact hfit.sameControl
  | fitSingle => exact (fitSingleRun_state ..).sameControl
  | fitRange => exact (fitRangeRun_state ..).sameControl
  | fitCluster => exact (fitClusterRun_state ..).sameControl
  | decompress | colourDec => exact writeTexels_sameControl ..
  | alpha3Dec | alpha5Dec => exact writeAlphas_sameControl ..
  | pack3 | pack4 | alpha3Enc => exact writeBlockHalf_sameControl ..
  | alpha5Enc => exact putAlpha5_sameControl ..
  | psBuild => exact withPointSet_sameControl ..
  | nop | clear => exact ⟨rfl, rfl, rfl, rfl, rfl, rfl, rfl, rfl, rfl, rfl, rfl⟩

/-- Settles O23. The errors are those of `stepError`; where none is due the wrapper sets DONE and clears BUSY over a state
with the control fields of the old one. -/
theorem commandOutcome : Obligations.CommandOutcome := by
  intro i s
  refine ⟨stepError_range i s, fun h => exec_of_due h, fun h => exec_of_due h, fun h => exec_of_due h, fun h => ?_⟩
  have hkeep := commandRun_sameControl i s
  exact ⟨_, exec_of_not_due h, rfl, rfl, hkeep.err, hkeep.ecode, hkeep.cfg, hkeep.mask, hkeep.lastop, hkeep.pending,
    hkeep.events, hkeep.oracle, hkeep.rdata⟩

/-! ### The data fields, command by command -/

/-- The alpha encoders write bytes 0 to 7 and the two error registers (R375, R390). -/
theorem putAlpha_keeps (p : Params) (s : State) (f : BitVec 9) (m : BitVec 16) :
    (s.putAlpha p f m).texel = s.texel ∧ (s.putAlpha p f m).ps = s.ps ∧ (s.putAlpha p f m).fit = s.fit ∧
    (s.putAlpha p f m).iters = s.iters ∧ (s.putAlpha p f m).bestIter = s.bestIter ∧ (s.putAlpha p f m).order = s.order := by
  rcases putAlpha_cases p s f m with ⟨-, -, h⟩ | ⟨-, -, h⟩ | ⟨-, -, h⟩ | ⟨-, -, h⟩ <;> rw [h] <;>
    exact ⟨rfl, rfl, rfl, rfl, rfl, rfl⟩

theorem blockByte_putAlpha3 (s : State) (m : BitVec 16) {n : Fin 16} (hn : 8 ≤ n.val) :
    (s.putAlpha3 m).blockByte n = s.blockByte n := by
  rw [State.putAlpha3, blockByte_writeBlockHalf, if_neg (by simp [hn])]

theorem blockByte_putAlpha5 (p : Params) (s : State) (m : BitVec 16) {n : Fin 16} (hn : 8 ≤ n.val) :
    (s.putAlpha5 p m).blockByte n = s.blockByte n := by
  rw [blockByte_congr (State.putAlpha5_block p m s), blockByte_writeBlockHalf, if_neg (by simp [hn])]

theorem blockByte_putAlpha (p : Params) (s : State) (f : BitVec 9) (m : BitVec 16) {n : Fin 16} (hn : 8 ≤ n.val) :
    (s.putAlpha p f m).blockByte n = s.blockByte n := by
  rcases putAlpha_cases p s f m with ⟨-, -, h⟩ | ⟨-, -, h⟩ | ⟨-, -, h⟩ | ⟨-, -, h⟩ <;> rw [h]
  · exact blockByte_putAlpha3 s m hn
  · exact blockByte_putAlpha5 p s m hn
  · rw [blockByte_putAlpha5 p _ m hn, blockByte_putAlpha3 s m hn]

/-- Each normalised flag word names exactly one format (R105, R106). -/
theorem normalise_format (raw : BitVec 9) :
    (isBC1 (normalise raw) = true ∧ isBC2 (normalise raw) = false ∧ isBC3 (normalise raw) = false) ∨
    (isBC1 (normalise raw) = false ∧ isBC2 (normalise raw) = true ∧ isBC3 (normalise raw) = false) ∨
    (isBC1 (normalise raw) = false ∧ isBC2 (normalise raw) = false ∧ isBC3 (normalise raw) = true) := by
  revert raw
  decide +kernel

theorem withPointSet_cfg (s : State) (m : BitVec 16) : (s.withPointSet m).ps.cfg = normalise s.cfg := rfl

/-- What a compression leaves of its three stages (R411). -/
theorem compressRun_keeps (p : Params) (m : BitVec 16) (s : State) :
    (compressRun p m s).texel = s.texel ∧ (compressRun p m s).ps = buildPointSet s.texel m (normalise s.cfg) ∧
    (compressRun p m s).fit = (fitAutoRun p (s.withPointSet m)).fit := by
  obtain ⟨kind, hfit⟩ := fitAutoRun_state p (s.withPointSet m)
  obtain ⟨htexel, hps, -, -⟩ := hfit.sameOperands
  obtain ⟨htexel', hps', hfit', -⟩ := putAlpha_keeps p (fitAutoRun p (s.withPointSet m)) (normalise s.cfg) m
  exact ⟨htexel'.trans htexel, hps'.trans hps, hfit'⟩

/-- A compression writes the bytes of the format (R411). -/
theorem blockByte_compressRun (p : Params) (m : BitVec 16) (s : State) {n : Fin 16}
    (hn : bytesPerBlock (normalise s.cfg) ≤ n.val) : (compressRun p m s).blockByte n = s.blockByte n := by
  obtain ⟨kind, hfit⟩ := fitAutoRun_state p (s.withPointSet m)
  unfold bytesPerBlock at hn
  split at hn
  · next hbc1 =>
    have hhalf : decide (8 ≤ n.val) ≠ colourHigh (s.withPointSet m).ps.cfg := by
      rw [withPointSet_cfg, colourHigh, hbc1, decide_eq_true hn]
      decide
    rw [compressRun, blockByte_putAlpha p _ _ m hn, hfit.blockByte_eq hhalf]
    exact blockByte_congr rfl n
  · exact absurd hn (by omega)

theorem commandRun_texel {i : Instr} (hi : i ∉ [Instr.decompress, .colourDec, .alpha3Dec, .alpha5Dec]) (s : State) :
    (commandRun i s).texel = s.texel := by
  cases i with
  | decompress | colourDec | alpha3Dec | alpha5Dec => exact absurd (by simp) hi
  | compress => exact (compressRun_keeps ..).1
  | compressMasked => exact (compressRun_keeps ..).1
  | fitAuto =>
    obtain ⟨kind, hfit⟩ := fitAutoRun_state Config.params s
    exact hfit.sameOperands.1
  | fitSingle => exact (fitSingleRun_state ..).sameOperands.1
  | fitRange => exact (fitRangeRun_state ..).sameOperands.1
  | fitCluster => exact (fitClusterRun_state ..).sameOperands.1
  | _ => rfl

/-- The alpha decoders keep the colour lanes (R72). -/
theorem writeAlphas_rgb (s : State) (a : Vector Byte 16) (k : Fin 16) :
    texelR (s.writeAlphas a).texel[k] = texelR s.texel[k] ∧ texelG (s.writeAlphas a).texel[k] = texelG s.texel[k] ∧
    texelB (s.writeAlphas a).texel[k] = texelB s.texel[k] ∧ texelA (s.writeAlphas a).texel[k] = a[k] := by
  simp

theorem commandRun_blockByte {i : Instr} {s : State} {n : Fin 16} (hn : writesBlockByte i s n = false) :
    (commandRun i s).blockByte n = s.blockByte n := by
  cases i with
  | compress =>
    exact blockByte_compressRun _ _ _ (Nat.le_of_not_lt (of_decide_eq_false hn))
  | compressMasked =>
    exact blockByte_compressRun _ _ _ (Nat.le_of_not_lt (of_decide_eq_false hn))
  | fitAuto =>
    obtain ⟨kind, hfit⟩ := fitAutoRun_state Config.params s
    exact hfit.blockByte_eq (beq_eq_false_iff_ne.mp hn)
  | fitSingle => exact (fitSingleRun_state ..).blockByte_eq (beq_eq_false_iff_ne.mp hn)
  | fitRange => exact (fitRangeRun_state ..).blockByte_eq (beq_eq_false_iff_ne.mp hn)
  | fitCluster => exact (fitClusterRun_state ..).blockByte_eq (beq_eq_false_iff_ne.mp hn)
  | pack3 => exact (blockByte_writeBlockHalf ..).trans (if_neg (beq_eq_false_iff_ne.mp hn))
  | pack4 => exact (blockByte_writeBlockHalf ..).trans (if_neg (beq_eq_false_iff_ne.mp hn))
  | alpha3Enc => exact blockByte_putAlpha3 s _ (Nat.le_of_not_lt (of_decide_eq_false hn))
  | alpha5Enc => exact blockByte_putAlpha5 _ s _ (Nat.le_of_not_lt (of_decide_eq_false hn))
  | _ => rfl

theorem commandRun_ps {i : Instr} (hi : i ∉ [Instr.psBuild, .compress, .compressMasked, .clear]) (s : State) :
    (commandRun i s).ps = s.ps := by
  cases i with
  | psBuild | compress | compressMasked | clear => exact absurd (by simp) hi
  | fitAuto =>
    obtain ⟨kind, hfit⟩ := fitAutoRun_state Config.params s
    exact hfit.ps_eq
  | fitSingle => exact (fitSingleRun_state ..).ps_eq
  | fitRange => exact (fitRangeRun_state ..).ps_eq
  | fitCluster => exact (fitClusterRun_state ..).ps_eq
  | _ => rfl

theorem commandRun_fit {i : Instr}
    (hi : i ∉ [Instr.fitAuto, .fitSingle, .fitRange, .fitCluster, .compress, .compressMasked, .clear]) (s : State) :
    (commandRun i s).fit = s.fit := by
  cases i with
  | fitAuto | fitSingle | fitRange | fitCluster | compress | compressMasked | clear => exact absurd (by simp) hi
  | _ => rfl

theorem commandRun_besterr {i : Instr}
    (hi : i ∉ [Instr.fitAuto, .fitRange, .fitCluster, .compress, .compressMasked, .clear]) (s : State) :
    (commandRun i s).besterr = s.besterr := by
  cases i with
  | fitAuto | fitRange | fitCluster | compress | compressMasked | clear => exact absurd (by simp) hi
  | fitSingle => exact (fitSingleRun_other ..).1
  | _ => rfl

theorem commandRun_besterrI {i : Instr} (hi : i ∉ [Instr.fitAuto, .fitSingle, .compress, .compressMasked, .clear])
    (s : State) : (commandRun i s).besterrI = s.besterrI := by
  cases i with
  | fitAuto | fitSingle | compress | compressMasked | clear => exact absurd (by simp) hi
  | fitRange => exact (fitRangeRun_other ..).1
  | fitCluster => exact fitClusterRun_other ..
  | _ => simp [commandRun]

theorem commandRun_aerr {i : Instr} (hi : i ∉ [Instr.alpha5Enc, .compress, .compressMasked, .clear]) (s : State) :
    (commandRun i s).aerr5 = s.aerr5 ∧ (commandRun i s).aerr7 = s.aerr7 := by
  cases i with
  | alpha5Enc | compress | compressMasked | clear => exact absurd (by simp) hi
  | fitAuto =>
    obtain ⟨kind, hfit⟩ := fitAutoRun_state Config.params s
    exact hfit.sameOperands.2.2
  | fitSingle => exact (fitSingleRun_state ..).sameOperands.2.2
  | fitRange => exact (fitRangeRun_state ..).sameOperands.2.2
  | fitCluster => exact (fitClusterRun_state ..).sameOperands.2.2
  | _ => simp [commandRun]

theorem commandRun_counters {i : Instr} (hi : i ∉ [Instr.fitAuto, .fitCluster, .compress, .compressMasked, .clear])
    (s : State) : SameCounters s (commandRun i s) := by
  cases i with
  | fitAuto | fitCluster | compress | compressMasked | clear => exact absurd (by simp) hi
  | fitSingle => exact (fitSingleRun_other ..).2
  | fitRange => exact (fitRangeRun_other ..).2
  | _ => simp [SameCounters, commandRun]

/-- Settles O24. A command that raised its error changed no data; each other clause is the frame of one field. -/
theorem commandFrame : Obligations.CommandFrame := by
  intro i s t h
  rcases exec_outcome h with ⟨-, rfl⟩ | ⟨c, -, rfl⟩
  · refine ⟨fun hi => commandRun_texel hi s, fun hi k => ?rgb, fun n hn => commandRun_blockByte hn,
      fun hi => commandRun_ps hi s, fun hi => commandRun_fit hi s, fun hi => commandRun_besterr hi s,
      fun hi => commandRun_besterrI hi s, fun hi => commandRun_aerr hi s, fun hi => commandRun_counters hi s⟩
    have hrgb (a : Vector Byte 16) := writeAlphas_rgb s a k
    simp only [List.mem_cons, List.not_mem_nil, or_false] at hi
    rcases hi with rfl | rfl
    · obtain ⟨hr, hg, hb, -⟩ := hrgb (decodeAlpha3 (s.blockHalf false))
      exact ⟨hr, hg, hb⟩
    · obtain ⟨hr, hg, hb, -⟩ := hrgb (decodeAlpha5 (s.blockHalf false))
      exact ⟨hr, hg, hb⟩
  · exact ⟨fun _ => rfl, fun _ _ => ⟨rfl, rfl, rfl⟩, fun _ _ => rfl, fun _ => rfl, fun _ => rfl, fun _ => rfl, fun _ => rfl,
      fun _ => ⟨rfl, rfl⟩, fun _ => ⟨rfl, rfl, rfl⟩⟩

end Sys2Proof.Machine
end

section
/-! PROOFS. One step of the machine (R80, R81, R450, R454): what each event does, the stickiness of an error, and runs of host
accesses. -/

namespace Sys2Proof.Machine

/-! ### A step, by its event -/

theorem coreStep_of_pending {s : State} {i : Instr} (h : s.pending = i.opcode) : coreStep s = exec i s := by
  rw [coreStep, h, decodeOp_opcode]

theorem coreTurn_of_busy {s : State} {i : Instr} (hbusy : s.busy = true) (h : s.pending = i.opcode) :
    coreTurn s = exec i s := by
  rw [coreTurn, if_pos hbusy, coreStep_of_pending h]

theorem coreTurn_of_idle {s : State} (hidle : s.busy = false) : coreTurn s = .next s := by
  simp [coreTurn, hidle]

theorem step_of_no_event {s : State} (h : s.events = []) : step s = coreTurn s := by
  rw [step, h]

theorem step_of_coreStep {s : State} {rest : List Event} (h : s.events = .coreStep :: rest) :
    step s = coreTurn { s with events := rest } := by
  rw [step, h]

theorem step_of_write {s : State} {off : BitVec 12} {v : Word} {rest : List Event} (h : s.events = .write off v :: rest) :
    step s = .next (State.hostWrite { s with events := rest } off v) := by
  rw [step, h]

theorem step_of_read {s : State} {off : BitVec 12} {rest : List Event} (h : s.events = .read off :: rest) :
    step s = .next (State.hostRead { s with events := rest } off) := by
  rw [step, h]

/-- A CMD write of a command word to an idle core makes the command the pending one. -/
theorem step_of_cmd {s : State} {i : Instr} {rest : List Event} (hidle : s.busy = false)
    (h : s.events = .write 0x008#12 (encode i) :: rest) : step s = .next (State.accept { s with events := rest } i.opcode) := by
  rw [step_of_write h, State.hostWrite_cmd_of_idle (s := { s with events := rest }) hidle, State.writeCmd_encode]

theorem step_of_reset {s : State} {rest : List Event} (h : s.events = .reset :: rest) :
    step s = .next (State.resetEvent { s with events := rest }) := by
  rw [step, h]

/-- The core's turn runs a listed command that is pending, or does nothing on an idle core. -/
theorem coreTurn_cases {s t : State} (h : coreTurn s = .next t) :
    (s.busy = false ∧ t = s) ∨ (s.busy = true ∧ ∃ i : Instr, s.pending = i.opcode ∧ exec i s = .next t) := by
  cases hbusy : s.busy with
  | false =>
    rw [coreTurn_of_idle hbusy] at h
    exact .inl ⟨rfl, (Host.Outcome.next.inj h).symm⟩
  | true =>
    rw [coreTurn, if_pos hbusy, coreStep] at h
    split at h
    · next i hi => exact .inr ⟨rfl, i, opcode_of_decodeOp hi, h⟩
    · cases h

/-- Everything one step can do. -/
theorem step_cases {s t : State} (h : step s = .next t) :
    (∃ rest, (s.events = [] ∧ rest = [] ∨ s.events = .coreStep :: rest) ∧ coreTurn { s with events := rest } = .next t) ∨
    (∃ off v rest, s.events = .write off v :: rest ∧ t = State.hostWrite { s with events := rest } off v) ∨
    (∃ off rest, s.events = .read off :: rest ∧ t = State.hostRead { s with events := rest } off) ∨
    (∃ rest, s.events = .reset :: rest ∧ t = State.resetEvent { s with events := rest }) := by
  cases he : s.events with
  | nil =>
    have hs : ({ s with events := [] } : State) = s := by rw [← he]
    exact .inl ⟨[], .inl ⟨rfl, rfl⟩, by rw [hs, ← step_of_no_event he, h]⟩
  | cons e rest =>
    cases e with
    | coreStep => exact .inl ⟨rest, .inr rfl, by rw [← step_of_coreStep he, h]⟩
    | write off v =>
      rw [step_of_write he] at h
      exact .inr (.inl ⟨off, v, rest, rfl, (Host.Outcome.next.inj h).symm⟩)
    | read off =>
      rw [step_of_read he] at h
      exact .inr (.inr (.inl ⟨off, rest, rfl, (Host.Outcome.next.inj h).symm⟩))
    | reset =>
      rw [step_of_reset he] at h
      exact .inr (.inr (.inr ⟨rest, rfl, (Host.Outcome.next.inj h).symm⟩))

theorem decodeTableWord_encode (i : Instr) : decodeTableWord 32 (encode i).toNat = some i := by
  rw [decodeTableWord, if_pos (encode i).isLt, BitVec.ofNat_toNat, BitVec.setWidth_eq, decode_encode]
  rfl

/-- Settles O16. Each clause names the event of the step; the pending OP is that of a listed command, which the opcode map
reads back. -/
theorem stepRunsPendingCommand : Obligations.StepRunsPendingCommand := by
  refine ⟨fun s i he hbusy hpending => ?_, fun s i rest he hbusy hpending => ?_, fun s i w rest he hidle hdecode => ?_,
    fun s he hidle => ?_, fun s i => ?_⟩
  · rw [extractLsb'_op_encode] at hpending
    rw [step_of_no_event he, coreTurn_of_busy hbusy hpending]
  · rw [extractLsb'_op_encode] at hpending
    rw [step_of_coreStep he]
    exact coreTurn_of_busy (s := { s with events := rest }) hbusy hpending
  · rw [encode_of_decode hdecode] at he
    exact step_of_cmd hidle he
  · rw [step_of_no_event he, coreTurn_of_idle hidle]
  · rw [State.withFetchWord, decodeTableWord_encode]
    exact coreTurn_of_busy (s := { s.accept i.opcode with events := [] }) rfl rfl

/-! ### An error stays (R452) -/

/-- ERR and ECODE of `t` are those of `s` if `s` had an error. -/
def KeepsError (s t : State) : Prop := s.err = true → t.err = true ∧ t.ecode = s.ecode

theorem raise_keepsError (s : State) (c : ErrorCode) : KeepsError s (s.raise c) :=
  fun herr => ⟨rfl, if_pos herr⟩

theorem store_keepsError {r : Reg} (hr : r ≠ .status) (s : State) (v : Word) : KeepsError s (s.store r v) := by
  intro herr
  cases r with
  | status => exact absurd rfl hr
  | cmd =>
    rw [State.store, State.writeCmd]
    split
    · exact raise_keepsError s _ herr
    · exact raise_keepsError s _ herr
    · exact ⟨herr, rfl⟩
  | _ => exact ⟨herr, rfl⟩

theorem hostWrite_keepsError (s : State) {off : BitVec 12} {v : Word} (h : off ≠ 0x00C#12 ∨ v.getLsbD 2 = false) :
    KeepsError s (s.hostWrite off v) := by
  rcases hostWrite_cases s off v with ⟨-, hw⟩ | ⟨r, -, -, hw⟩ | ⟨r, -, -, -, -, hw⟩ | ⟨r, hr, -, -, hw⟩ <;> rw [hw]
  · exact raise_keepsError s _
  · exact raise_keepsError s _
  · exact raise_keepsError s _
  · by_cases hstatus : r = .status
    · subst hstatus
      have hbit : v.getLsbD 2 = false :=
        h.resolve_left fun hoff => hoff (BitVec.eq_of_toNat_eq (regOffset_of_regAt hr).symm)
      intro herr
      simp only [State.store, State.writeStatus_err, State.writeStatus_ecode, hbit, herr]
      exact ⟨rfl, rfl⟩
    · exact store_keepsError hstatus s v

theorem hostRead_keepsError (s : State) (off : BitVec 12) : KeepsError s (s.hostRead off) := by
  rcases hostRead_cases s off with ⟨-, hr⟩ | ⟨-, hr⟩ | ⟨r, -, -, -, -, hr⟩ | ⟨r, -, -, -, hr⟩ <;> rw [hr]
  · exact raise_keepsError s _
  all_goals exact fun herr => ⟨herr, rfl⟩

theorem exec_keepsError {i : Instr} {s t : State} (h : exec i s = .next t) : KeepsError s t := by
  intro herr
  rcases exec_outcome h with ⟨-, rfl⟩ | ⟨c, -, rfl⟩
  · have hkeep := commandRun_sameControl i s
    exact ⟨hkeep.err.trans herr, hkeep.ecode⟩
  · exact ⟨rfl, if_pos herr⟩

/-- Settles O17. Of the four kinds of step only a STATUS write of bit 2 and a reset can clear an error. -/
theorem errorIsSticky : Obligations.ErrorIsSticky := by
  intro s t h herr
  rcases step_cases h with ⟨rest, -, hturn⟩ | ⟨off, v, rest, he, rfl⟩ | ⟨off, rest, -, rfl⟩ | ⟨rest, he, -⟩
  · rcases coreTurn_cases hturn with ⟨-, rfl⟩ | ⟨-, i, -, hexec⟩
    · exact .inl ⟨herr, rfl⟩
    · exact .inl (exec_keepsError (s := { s with events := rest }) hexec herr)
  · by_cases hclear : off = 0x00C#12 ∧ v.getLsbD 2 = true
    · exact .inr (.inl ⟨v, rest, by rw [he, hclear.1], hclear.2⟩)
    · refine .inl (hostWrite_keepsError { s with events := rest } ?_ herr)
      by_cases hoff : off = 0x00C#12
      · exact .inr (by simpa [hoff] using hclear)
      · exact .inl hoff
  · exact .inl (hostRead_keepsError { s with events := rest } off herr)
  · exact .inr (.inr ⟨rest, he⟩)

/-! ### Host accesses while a command is pending (R80, R490) -/

/-- All but the STATUS bits a host may change and the model's own fields of two states agree. -/
def SameOperands (s t : State) : Prop :=
  t = { s with
    done := t.done, err := t.err, ecode := t.ecode, events := t.events, oracle := t.oracle, rdata := t.rdata }

theorem SameOperands.busy_eq {s t : State} (h : SameOperands s t) : t.busy = s.busy := by rw [h]

theorem SameOperands.trans {s t u : State} (h : SameOperands s t) (h' : SameOperands t u) : SameOperands s u := by
  unfold SameOperands at *
  rw [h', h]

theorem hostWrite_sameOperands {s : State} (hbusy : s.busy = true) (off : BitVec 12) (v : Word) :
    SameOperands s (s.hostWrite off v) := by
  rcases hostWrite_cases s off v with ⟨-, hw⟩ | ⟨r, -, -, hw⟩ | ⟨r, -, -, -, -, hw⟩ | ⟨r, -, -, hb, hw⟩ <;> rw [hw]
  · rfl
  · rfl
  · rfl
  · obtain rfl : r = .status := hb.resolve_left (by simp [hbusy])
    rfl

theorem hostRead_sameOperands (s : State) (off : BitVec 12) : SameOperands s (s.hostRead off) := by
  rcases hostRead_cases s off with ⟨-, hr⟩ | ⟨-, hr⟩ | ⟨r, -, -, -, -, hr⟩ | ⟨r, -, -, -, hr⟩ <;> rw [hr] <;> rfl

/-- A host access takes itself off the list of events and nothing else. -/
theorem hostWrite_events (s : State) (off : BitVec 12) (v : Word) : (s.hostWrite off v).events = s.events := by
  rcases hostWrite_cases s off v with ⟨-, hw⟩ | ⟨r, -, -, hw⟩ | ⟨r, -, -, -, -, hw⟩ | ⟨r, -, -, -, hw⟩ <;> rw [hw]
  · rfl
  · rfl
  · rfl
  · cases r with
    | cmd =>
      rw [State.store, State.writeCmd]
      split <;> rfl
    | _ => rfl

theorem hostRead_events (s : State) (off : BitVec 12) : (s.hostRead off).events = s.events := by
  rcases hostRead_cases s off with ⟨-, hr⟩ | ⟨-, hr⟩ | ⟨r, -, -, -, -, hr⟩ | ⟨r, -, -, -, hr⟩ <;> rw [hr]
  rfl

/-- One host access of a busy core. -/
theorem step_access {s : State} {e : Event} {rest : List Event}
    (he : (∃ off v, e = .write off v) ∨ (∃ off, e = .read off)) (hbusy : s.busy = true) (hs : s.events = e :: rest) :
    ∃ t, step s = .next t ∧ SameOperands s t ∧ t.events = rest := by
  have hdrop : SameOperands s { s with events := rest } := rfl
  rcases he with ⟨off, v, rfl⟩ | ⟨off, rfl⟩
  · exact ⟨_, step_of_write hs, hdrop.trans (hostWrite_sameOperands (s := { s with events := rest }) hbusy off v),
      hostWrite_events ..⟩
  · exact ⟨_, step_of_read hs, hdrop.trans (hostRead_sameOperands { s with events := rest } off), hostRead_events ..⟩

theorem run_succ_of_step {s t : State} (h : step s = .next t) (k : Nat) :
    Host.Core.run Sys2Proof.core (k + 1) s = Host.Core.run Sys2Proof.core k t := by
  simp only [Host.Core.run, Host.Check.core_step, h]

/-- Settles O21, by induction on the accesses: each keeps the operands and leaves the rest of the list. -/
theorem pendingOperandsStable : Obligations.PendingOperandsStable := by
  intro accesses
  induction accesses with
  | nil =>
    intro rest s _ _ hs
    exact ⟨s, rfl, by rw [← show s.events = rest from hs]⟩
  | cons e es ih =>
    intro rest s hacc hbusy hs
    obtain ⟨t, hstep, hsame, hevents⟩ := step_access (hacc e (List.mem_cons_self ..)) hbusy hs
    obtain ⟨u, hrun, hu⟩ := ih rest t (fun e' he' => hacc e' (List.mem_cons_of_mem _ he'))
      (hsame.busy_eq.trans hbusy) hevents
    refine ⟨u, (run_succ_of_step hstep es.length).trans hrun, ?_⟩
    have hrest : u.events = rest := by rw [hu]
    have husame : SameOperands t u := by
      unfold SameOperands
      rw [hrest]
      exact hu
    have := hsame.trans husame
    unfold SameOperands at this
    rwa [hrest] at this

/-! ### The RUN script (R131, R454) -/

theorem run_add_of_next {a : Nat} {s t : State} (h : Host.Core.run Sys2Proof.core a s = .next t) (b : Nat) :
    Host.Core.run Sys2Proof.core (a + b) s = Host.Core.run Sys2Proof.core b t := by
  induction a generalizing s with
  | zero =>
    obtain rfl : s = t := Host.Outcome.next.inj h
    rw [Nat.zero_add]
  | succ a ih =>
    rw [Nat.succ_add]
    cases hstep : step s with
    | next u =>
      rw [run_succ_of_step hstep] at h ⊢
      exact ih h
    | fault r => simp [Host.Core.run, Host.Check.core_step, hstep] at h
    | refused r => simp [Host.Core.run, Host.Check.core_step, hstep] at h

theorem hostRead_status (s : State) : s.hostRead 0x00C#12 = { s with rdata := s.regValue .status } :=
  State.hostRead_of_readable (regAt_regOffset .status) (by decide) (.inr rfl)

/-- Any number of polls of STATUS change the read data only, and see a pending command as BUSY. -/
theorem run_polls (polls : Nat) {s : State} {rest : List Event} (hbusy : s.busy = true)
    (he : s.events = List.replicate polls (rd .status) ++ rest) :
    ∃ u : State, Host.Core.run Sys2Proof.core polls s = .next u ∧
      u = { s with events := rest, rdata := u.rdata } ∧ (0 < polls → u.rdata.getLsbD 0 = true) := by
  induction polls generalizing s with
  | zero => exact ⟨s, rfl, by rw [← show s.events = rest from he], fun h => absurd h (by decide)⟩
  | succ polls ih =>
    have hstep := step_of_read (s := s) (off := 0x00C#12) (rest := List.replicate polls (rd .status) ++ rest) he
    rw [hostRead_status] at hstep
    have hread : ((State.regValue { s with events := List.replicate polls (rd .status) ++ rest } .status).getLsbD 0) = true :=
      (status_fields _).1.trans hbusy
    obtain ⟨u, hrun, hu, hpoll⟩ := ih (s := { s with
      events := List.replicate polls (rd .status) ++ rest
      rdata := State.regValue { s with events := List.replicate polls (rd .status) ++ rest } .status }) hbusy rfl
    refine ⟨u, (run_succ_of_step hstep polls).trans hrun, hu, fun _ => ?_⟩
    cases polls with
    | zero =>
      obtain rfl := Host.Outcome.next.inj hrun
      exact hread
    | succ k => exact hpoll (Nat.succ_pos k)

theorem exec_events {i : Instr} {s t : State} (h : exec i s = .next t) : t.events = s.events := by
  rcases exec_outcome h with ⟨-, rfl⟩ | ⟨c, -, rfl⟩
  · exact (commandRun_sameControl i s).events
  · rfl

theorem exec_busy {i : Instr} {s t : State} (h : exec i s = .next t) : t.busy = false := by
  rcases exec_outcome h with ⟨-, rfl⟩ | ⟨c, -, rfl⟩ <;> rfl

/-- Settles O22. The CMD write makes the command pending, the polls keep it so, the core's step runs it, and the last read finds
the core idle. -/
theorem runScriptCompletes : Obligations.RunScriptCompletes := by
  intro s i polls rest hidle he
  have he' : s.events = .write 0x008#12 (encode i) ::
      (List.replicate polls (rd .status) ++ (.coreStep :: .read 0x00C#12 :: rest)) := by
    rw [he]
    simp [runScript, cmdScript, waitScript, wr, rd, regOffset]
  have hstart := step_of_cmd hidle he'
  obtain ⟨u, hpolls, hu, hpoll⟩ := run_polls polls (s := State.accept { s with
    events := List.replicate polls (rd .status) ++ (.coreStep :: .read 0x00C#12 :: rest) } i.opcode) rfl rfl
  have hrunU : Host.Core.run Sys2Proof.core (polls + 1) s = .next u := (run_succ_of_step hstart polls).trans hpolls
  have hubusy : u.busy = true := by rw [hu]; rfl
  have hupending : u.pending = i.opcode := by rw [hu]; rfl
  have huevents : u.events = .coreStep :: .read 0x00C#12 :: rest := by rw [hu]
  obtain ⟨t, hexec⟩ := exec_next i { u with events := .read 0x00C#12 :: rest }
  have hrunT : step u = .next t := by
    rw [step_of_coreStep huevents, coreTurn_of_busy (s := { u with events := .read 0x00C#12 :: rest }) hubusy hupending, hexec]
  have hlast : step t = .next { t with events := rest, rdata := t.regValue .status } := by
    rw [step_of_read (exec_events hexec), hostRead_status]
    exact congrArg (fun v => Host.Outcome.next { t with events := rest, rdata := v })
      (regValue_with_own t rest t.oracle t.rdata .status)
  refine ⟨u, t, hrunU, hubusy, hpoll, hexec, ?_, exec_busy hexec, (status_fields t).1.trans (exec_busy hexec)⟩
  rw [show polls + 3 = polls + 1 + 2 from rfl, run_add_of_next hrunU, run_succ_of_step hrunT, run_succ_of_step hlast]
  rfl

end Sys2Proof.Machine
end

section
/-! PROOFS. The invariant of the core's state (`State.Inv`): its part about the point-set file, what host accesses and commands
keep of it, and the runs that never stop. -/

namespace Sys2Proof.Machine

/-! ### The invariant of the point-set file (R43, R190, R191, R195) -/

/-- The part of `State.Inv` that speaks of the point-set file. -/
structure PointSet.Inv (ps : PointSet) : Prop where
  count : ps.count ≤ 16
  remap : ∀ i k : Fin 16, ps.remap[i] = some k → k.val < ps.count
  point : ∀ k : Fin 16, k.val < ps.count → ∃ t : Word,
    ps.point[k] = ⟨(F32.ofNat (t.toNat % 256)).div f255, (F32.ofNat (t.toNat / 256 % 256)).div f255,
      (F32.ofNat (t.toNat / 65536 % 256)).div f255⟩
  unused : ∀ k : Fin 16, ps.count ≤ k.val → ps.point[k] = zeroVec3 ∧ ps.weight[k] = ⟨0#32⟩
  cfg : ps.valid = true → normalise ps.cfg = ps.cfg
  invalid : ps.valid = false → ps = PointSet.reset

theorem State.Inv.pointSet {s : State} (h : s.Inv) : s.ps.Inv :=
  ⟨h.psCount, h.psRemap, h.psPoint, h.psUnused, h.psCfg, h.psInvalid⟩

theorem State.Inv.counters {s : State} (h : s.Inv) : CountersInRange s := ⟨h.iters, h.bestIter, h.order⟩

theorem PointSet.inv_reset : PointSet.reset.Inv :=
  invariantAtReset.pointSet

theorem countersInRange_reset : CountersInRange State.reset := invariantAtReset.counters

/-- The colour lanes of a texel as digits of its number (R31). -/
theorem normalise8_eq (t : Word) : normalise8 t = ⟨(F32.ofNat (t.toNat % 256)).div f255,
    (F32.ofNat (t.toNat / 256 % 256)).div f255, (F32.ofNat (t.toNat / 65536 % 256)).div f255⟩ := by
  simp only [normalise8, texelR, texelG, texelB, BitVec.extractLsb'_toNat, Nat.shiftRight_eq_div_pow]
  norm_num

theorem normalise_idem (raw : BitVec 9) : normalise (normalise raw) = normalise raw := (normaliseFlags raw).2.2.2.2

theorem buildPointSet_inv (T : Vector Word 16) (m : BitVec 16) (raw : BitVec 9) : (buildPointSet T m (normalise raw)).Inv := by
  obtain ⟨hvalid, hcfg, hcount, hremap, hpoint, hunused⟩ := buildPointSet_bounds T m (normalise raw) _ rfl
  refine ⟨hcount, hremap, fun k hk => ?_, hunused, fun _ => ?_, fun h => ?_⟩
  · obtain ⟨t, ht⟩ := hpoint k hk
    exact ⟨t, ht.trans (normalise8_eq t)⟩
  · rw [hcfg, normalise_idem]
  · rw [hvalid] at h
    cases h

/-! ### The invariant from its three parts -/

/-- The part of `State.Inv` that speaks of the status fields and the pending command (R40, R102, R450, R451). -/
structure ControlInv (s : State) : Prop where
  ecodeClear : s.err = false → s.ecode = 0#4
  ecodeLegal : s.err = true → 1 ≤ s.ecode.toNat ∧ s.ecode.toNat ≤ 8
  lastopPending : s.lastop = s.pending
  pendingListed : (decodeOp s.pending).isSome = true
  busyNotDone : s.busy = true → s.done = false

theorem State.Inv.control {s : State} (h : s.Inv) : ControlInv s :=
  ⟨h.ecodeClear, h.ecodeLegal, h.lastopPending, h.pendingListed, h.busyNotDone⟩

theorem State.Inv.of_parts {s : State} (hcontrol : ControlInv s) (hps : s.ps.Inv) (hcounters : CountersInRange s) : s.Inv where
  ecodeClear := hcontrol.ecodeClear
  ecodeLegal := hcontrol.ecodeLegal
  lastopPending := hcontrol.lastopPending
  pendingListed := hcontrol.pendingListed
  busyNotDone := hcontrol.busyNotDone
  psCount := hps.count
  psRemap := hps.remap
  psPoint := hps.point
  psUnused := hps.unused
  psCfg := hps.cfg
  psInvalid := hps.invalid
  iters := hcounters.iters
  bestIter := hcounters.bestIter
  order := hcounters.order

/-! ### Host accesses keep the invariant -/

/-- The model's own fields are not in the invariant. -/
theorem State.Inv.with_own {s : State} (h : s.Inv) (es : List Event) (n : Nat) (v : Word) :
    ({ s with events := es, oracle := n, rdata := v } : State).Inv :=
  .of_parts ⟨h.ecodeClear, h.ecodeLegal, h.lastopPending, h.pendingListed, h.busyNotDone⟩ h.pointSet
    ⟨h.iters, h.bestIter, h.order⟩

theorem errorCode_range (c : ErrorCode) : 1 ≤ (errorCode c).toNat ∧ (errorCode c).toNat ≤ 8 := by
  cases c <;> decide

theorem raise_ecode_legal {s : State} (h : ControlInv s) (c : ErrorCode) :
    1 ≤ (s.raise c).ecode.toNat ∧ (s.raise c).ecode.toNat ≤ 8 := by
  rw [State.raise_ecode]
  split
  · next herr => exact h.ecodeLegal herr
  · exact errorCode_range c

theorem State.Inv.raise {s : State} (h : s.Inv) (c : ErrorCode) : (s.raise c).Inv :=
  .of_parts ⟨Bool.noConfusion, fun _ => raise_ecode_legal h.control c, h.lastopPending, h.pendingListed, h.busyNotDone⟩
    h.pointSet ⟨h.iters, h.bestIter, h.order⟩

theorem State.Inv.accept {s : State} (h : s.Inv) (i : Instr) : (s.accept i.opcode).Inv :=
  .of_parts ⟨h.ecodeClear, h.ecodeLegal, rfl, by simp [decodeOp_opcode], fun _ => rfl⟩ h.pointSet
    ⟨h.iters, h.bestIter, h.order⟩

theorem State.Inv.writeStatus {s : State} (h : s.Inv) (v : Word) : (s.writeStatus v).Inv := by
  refine .of_parts ⟨?_, ?_, h.lastopPending, h.pendingListed, ?_⟩ h.pointSet ⟨h.iters, h.bestIter, h.order⟩
  · rw [State.writeStatus_err, State.writeStatus_ecode]
    cases v.getLsbD 2 with
    | true => exact fun _ => rfl
    | false => simpa using h.ecodeClear
  · rw [State.writeStatus_err, State.writeStatus_ecode]
    cases v.getLsbD 2 with
    | true => simp
    | false => simpa using h.ecodeLegal
  · intro hbusy
    simp [h.busyNotDone hbusy]

/-- The operand registers are not in the invariant. -/
theorem State.Inv.with_operands {s : State} (h : s.Inv) (cfg : BitVec 9) (mask : BitVec 16) (texel : Vector Word 16)
    (block : Vector Word 4) (fit : FitResult) :
    ({ s with cfg := cfg, mask := mask, texel := texel, block := block, fit := fit } : State).Inv :=
  .of_parts ⟨h.ecodeClear, h.ecodeLegal, h.lastopPending, h.pendingListed, h.busyNotDone⟩ h.pointSet
    ⟨h.iters, h.bestIter, h.order⟩

theorem State.Inv.store {s : State} (h : s.Inv) (r : Reg) (v : Word) : (s.store r v).Inv := by
  cases r with
  | cmd =>
    rw [State.store, State.writeCmd]
    split
    · exact h.raise _
    · exact h.raise _
    · exact h.accept _
  | status => exact h.writeStatus v
  | cfg | mask | texel | block | fitStart | fitEnd | fitIdx =>
    rw [store_operand_frame ⟨rfl, Reg.noConfusion, Reg.noConfusion⟩ s v]
    exact h.with_operands ..
  | _ => exact h

theorem State.Inv.hostWrite {s : State} (h : s.Inv) (off : BitVec 12) (v : Word) : (s.hostWrite off v).Inv := by
  rcases hostWrite_cases s off v with ⟨-, hw⟩ | ⟨r, -, -, hw⟩ | ⟨r, -, -, -, -, hw⟩ | ⟨r, -, -, -, hw⟩ <;> rw [hw]
  · exact h.raise _
  · exact h.raise _
  · exact h.raise _
  · exact h.store r v

theorem State.Inv.hostRead {s : State} (h : s.Inv) (off : BitVec 12) : (s.hostRead off).Inv := by
  rcases hostRead_cases s off with ⟨-, hr⟩ | ⟨-, hr⟩ | ⟨r, -, -, -, -, hr⟩ | ⟨r, -, -, -, hr⟩ <;> rw [hr]
  · exact (h.raise .badAddr).with_own s.events s.oracle 0#32
  all_goals exact h.with_own ..

theorem State.inv_resetEvent (s : State) : s.resetEvent.Inv := invariantAtReset.with_own ..

/-! ### Commands keep the invariant -/

theorem commandRun_pointSet_inv (i : Instr) {s : State} (h : s.ps.Inv) : (commandRun i s).ps.Inv := by
  cases i with
  | psBuild => exact buildPointSet_inv ..
  | compress =>
    rw [commandRun, (compressRun_keeps ..).2.1]
    exact buildPointSet_inv ..
  | compressMasked =>
    rw [commandRun, (compressRun_keeps ..).2.1]
    exact buildPointSet_inv ..
  | clear => exact PointSet.inv_reset
  | _ =>
    rw [commandRun_ps (by decide)]
    exact h

theorem compressRun_countersInRange (p : Params) (m : BitVec 16) {s : State} (h : CountersInRange s) :
    CountersInRange (compressRun p m s) := by
  have hset : CountersInRange (s.withPointSet m) := ⟨h.iters, h.bestIter, h.order⟩
  obtain ⟨-, -, -, hiters, hbest, horder⟩ := putAlpha_keeps p (fitAutoRun p (s.withPointSet m)) (normalise s.cfg) m
  exact (hset.fitAutoRun p).of_same ⟨hiters, hbest, horder⟩

theorem commandRun_countersInRange (i : Instr) {s : State} (h : CountersInRange s) : CountersInRange (commandRun i s) := by
  cases i with
  | compress => exact compressRun_countersInRange _ _ h
  | compressMasked => exact compressRun_countersInRange _ _ h
  | clear => exact ⟨countersInRange_reset.iters, countersInRange_reset.bestIter, countersInRange_reset.order⟩
  | fitAuto => exact h.fitAutoRun _
  | fitCluster => exact h.fitClusterRun _
  | _ => exact h.of_same (commandRun_counters (by decide) s)

theorem State.Inv.exec {s t : State} (h : s.Inv) {i : Instr} (hexec : exec i s = .next t) : t.Inv := by
  rcases exec_outcome hexec with ⟨-, rfl⟩ | ⟨c, -, rfl⟩
  · have hkeep := commandRun_sameControl i s
    have hcounters := commandRun_countersInRange i h.counters
    refine .of_parts ⟨?_, ?_, ?_, ?_, Bool.noConfusion⟩ (commandRun_pointSet_inv i h.pointSet)
      ⟨hcounters.iters, hcounters.bestIter, hcounters.order⟩
    · rw [State.complete_err, State.complete_ecode, hkeep.err, hkeep.ecode]
      exact h.ecodeClear
    · rw [State.complete_err, State.complete_ecode, hkeep.err, hkeep.ecode]
      exact h.ecodeLegal
    · rw [State.complete_lastop, State.complete_pending, hkeep.lastop, hkeep.pending]
      exact h.lastopPending
    · rw [State.complete_pending, hkeep.pending]
      exact h.pendingListed
  · exact .of_parts ⟨Bool.noConfusion, fun _ => raise_ecode_legal h.control c, h.lastopPending, h.pendingListed,
      Bool.noConfusion⟩ h.pointSet ⟨h.iters, h.bestIter, h.order⟩

/-- Settles O19. The step is a host access, a reset or a command, and each keeps the three parts of the invariant. -/
theorem invariantKept : Obligations.InvariantKept := by
  intro s t h hstep
  have hown (rest : List Event) : ({ s with events := rest } : State).Inv := h.with_own rest s.oracle s.rdata
  rcases step_cases hstep with ⟨rest, -, hturn⟩ | ⟨off, v, rest, -, rfl⟩ | ⟨off, rest, -, rfl⟩ | ⟨rest, -, rfl⟩
  · rcases coreTurn_cases hturn with ⟨-, rfl⟩ | ⟨-, i, -, hexec⟩
    · exact hown rest
    · exact (hown rest).exec hexec
  · exact (hown rest).hostWrite off v
  · exact (hown rest).hostRead off
  · exact State.inv_resetEvent _

/-! ### No run stops (R456, R464) -/

/-- Under the invariant the core's turn always has a command to run. -/
theorem State.Inv.coreTurn_next {s : State} (h : s.Inv) : ∃ t, coreTurn s = .next t := by
  cases hbusy : s.busy with
  | false => exact ⟨s, coreTurn_of_idle hbusy⟩
  | true =>
    obtain ⟨i, hi⟩ := Option.isSome_iff_exists.mp h.pendingListed
    obtain ⟨t, ht⟩ := exec_next i s
    exact ⟨t, (coreTurn_of_busy hbusy (opcode_of_decodeOp hi)).trans ht⟩

theorem State.Inv.step_next {s : State} (h : s.Inv) : ∃ t, step s = .next t := by
  cases he : s.events with
  | nil =>
    rw [step_of_no_event he]
    exact h.coreTurn_next
  | cons e rest =>
    cases e with
    | coreStep =>
      rw [step_of_coreStep he]
      exact (h.with_own rest s.oracle s.rdata).coreTurn_next
    | write off v => exact ⟨_, step_of_write he⟩
    | read off => exact ⟨_, step_of_read he⟩
    | reset => exact ⟨_, step_of_reset he⟩

/-- Settles O20, by induction on the number of steps: each answers a next state and keeps the invariant. -/
theorem runsNeverStop : Obligations.RunsNeverStop := by
  intro s h k
  induction k generalizing s with
  | zero => exact ⟨s, rfl⟩
  | succ k ih =>
    obtain ⟨t, hstep⟩ := h.step_next
    rw [run_succ_of_step hstep]
    exact ih t (invariantKept s t h hstep)

end Sys2Proof.Machine
end

section
/-! PROOFS. The colour codec (`45_colour_codec.md`): what a packed block decodes to (R332 to R335, R343, R344). -/

namespace Sys2Proof.Machine

/-! ### Decoding a packed sub-block (R343) -/

theorem bitVec2_cases (j : BitVec 2) : j = 0#2 ∨ j = 1#2 ∨ j = 2#2 ∨ j = 3#2 := by
  revert j
  decide

theorem getElem_four {α : Type} (x y z w : α) (j : BitVec 2) :
    (#v[x, y, z, w])[j.toFin] = match j.toNat with | 0 => x | 1 => y | 2 => z | _ => w := by
  rcases bitVec2_cases j with rfl | rfl | rfl | rfl <;> rfl

theorem decodeColour_writeColourBlock (mode : ColourMode) (dxt1 : Bool) (a b : BitVec 16) (idx : Vector (BitVec 2) 16)
    (i : Fin 16) :
    (decodeColour mode (writeColourBlock a b idx) dxt1)[i] = (colourCodebook mode dxt1 a b)[(idx[i]).toFin] := by
  simp only [decodeColour, Fin.getElem_fin, Vector.getElem_ofFn, endpointA_writeColourBlock, endpointB_writeColourBlock,
    colourIndex_writeColourBlock]

theorem threeColour_of_le {a b : BitVec 16} (h : a.toNat ≤ b.toNat) (mode : ColourMode) : threeColour mode true a b = true := by
  simp [threeColour, h]

/-- With the higher endpoint first, a block has 4 colours in every format and colour mode. -/
theorem threeColour_of_gt {a b : BitVec 16} (h : b.toNat < a.toNat) (mode : ColourMode) (dxt1 : Bool) :
    threeColour mode dxt1 a b = false := by
  simp [threeColour, Nat.not_le.mpr h]

/-- The midpoint codebook of 3-colour mode over the endpoint colours `c`, `d`. -/
def midpointCode (c d : Rgba) (j : BitVec 2) : Rgba :=
  match j.toNat with
  | 0 => c
  | 1 => d
  | 2 => ⟨BitVec.ofNat 8 ((c.r.toNat + d.r.toNat) / 2), BitVec.ofNat 8 ((c.g.toNat + d.g.toNat) / 2),
      BitVec.ofNat 8 ((c.b.toNat + d.b.toNat) / 2), 255#8⟩
  | _ => ⟨0#8, 0#8, 0#8, 0#8⟩

/-- The one-third codebook of 4-colour mode over the endpoint colours `c`, `d`. -/
def thirdsCode (c d : Rgba) (j : BitVec 2) : Rgba :=
  match j.toNat with
  | 0 => c
  | 1 => d
  | 2 => ⟨BitVec.ofNat 8 ((2 * c.r.toNat + d.r.toNat) / 3), BitVec.ofNat 8 ((2 * c.g.toNat + d.g.toNat) / 3),
      BitVec.ofNat 8 ((2 * c.b.toNat + d.b.toNat) / 3), 255#8⟩
  | _ => ⟨BitVec.ofNat 8 ((c.r.toNat + 2 * d.r.toNat) / 3), BitVec.ofNat 8 ((c.g.toNat + 2 * d.g.toNat) / 3),
      BitVec.ofNat 8 ((c.b.toNat + 2 * d.b.toNat) / 3), 255#8⟩

/-- The decoder's codebook is one of the two, by the mode (R343). -/
theorem colourCodebook_getElem (mode : ColourMode) (dxt1 : Bool) (a b : BitVec 16) (j : BitVec 2) :
    (colourCodebook mode dxt1 a b)[j.toFin] =
      if threeColour mode dxt1 a b then midpointCode (unpack565 a) (unpack565 b) j
      else thirdsCode (unpack565 a) (unpack565 b) j := by
  cases hthree : threeColour mode dxt1 a b with
  | true =>
    rw [colourCodebook, hthree, getElem_four]
    rfl
  | false =>
    rw [colourCodebook, hthree, getElem_four]
    rfl

/-- R333: exchanging the endpoints and indices 0 and 1 keeps the colour. -/
theorem midpointCode_swap (c d : Rgba) (j : BitVec 2) : midpointCode d c (swapIndex3 j) = midpointCode c d j := by
  rcases bitVec2_cases j with rfl | rfl | rfl | rfl
  · rfl
  · rfl
  · simp [midpointCode, swapIndex3, Nat.add_comm]
  · rfl

/-- R334: exchanging the endpoints and every index with its neighbour keeps the colour. -/
theorem thirdsCode_swap (c d : Rgba) (j : BitVec 2) : thirdsCode d c (swapIndex4 j) = thirdsCode c d j := by
  rcases bitVec2_cases j with rfl | rfl | rfl | rfl
  · rfl
  · rfl
  · simp [thirdsCode, swapIndex4, Nat.add_comm]
  · simp [thirdsCode, swapIndex4, Nat.add_comm]

/-- What a 3-colour block decodes to in BC1 (R335). -/
theorem decodeColour_packBlock3 (mode : ColourMode) (a b : BitVec 16) (idx : Vector (BitVec 2) 16) (i : Fin 16) :
    (decodeColour mode (packBlock3 a b idx) true)[i] = midpointCode (unpack565 a) (unpack565 b) idx[i] := by
  unfold packBlock3
  split
  · next hle => rw [decodeColour_writeColourBlock, colourCodebook_getElem, if_pos (threeColour_of_le hle mode)]
  · next hgt =>
    rw [decodeColour_writeColourBlock, colourCodebook_getElem, if_pos (threeColour_of_le (Nat.le_of_not_le hgt) mode),
      Fin.getElem_fin, Vector.getElem_ofFn, midpointCode_swap]

/-- What a 4-colour block decodes to in every format and colour mode (R335, R346). -/
theorem decodeColour_packBlock4 (mode : ColourMode) (dxt1 : Bool) (a b : BitVec 16) (idx : Vector (BitVec 2) 16)
    (i : Fin 16) : (decodeColour mode (packBlock4 a b idx) dxt1)[i] =
      if a = b then unpack565 a else thirdsCode (unpack565 a) (unpack565 b) idx[i] := by
  unfold packBlock4
  split
  · next hlt =>
    have hne : a ≠ b := fun h => by rw [h] at hlt; exact Nat.lt_irrefl _ hlt
    rw [decodeColour_writeColourBlock, colourCodebook_getElem, threeColour_of_gt hlt, if_neg Bool.false_ne_true,
      Fin.getElem_fin, Vector.getElem_ofFn, thirdsCode_swap, if_neg hne]
  · next hge =>
    split
    · have hzero : (Vector.replicate 16 0#2)[i] = 0#2 := Vector.getElem_replicate _
      rw [decodeColour_writeColourBlock, colourCodebook_getElem, hzero]
      split <;> rfl
    · next hne =>
      have hgt : b.toNat < a.toNat := by
        have : a.toNat ≠ b.toNat := fun h => hne (BitVec.eq_of_toNat_eq h)
        omega
      rw [decodeColour_writeColourBlock, colourCodebook_getElem, threeColour_of_gt hgt, if_neg Bool.false_ne_true]

/-- Settles O49. The packers exchange endpoints and indices together, which the two codebooks do not notice. -/
theorem packersKeepColours : Obligations.PackersKeepColours := by
  rintro a b idx mode dxt1 i c d rfl rfl
  exact ⟨decodeColour_packBlock3 mode a b idx i, decodeColour_packBlock4 mode dxt1 a b idx i⟩

/-! ### COLOUR_DEC (R345) -/

theorem threeColour_iff {mode : ColourMode} {dxt1 : Bool} {a b : BitVec 16} :
    threeColour mode dxt1 a b = true ↔ a.toNat ≤ b.toNat ∧ (dxt1 = true ∨ mode = .compare) := by
  simp [threeColour]

/-- A blend of two bytes is a byte. -/
theorem toNat_blend (c d : Byte) :
    (BitVec.ofNat 8 ((c.toNat + d.toNat) / 2)).toNat = (c.toNat + d.toNat) / 2 ∧
    (BitVec.ofNat 8 ((2 * c.toNat + d.toNat) / 3)).toNat = (2 * c.toNat + d.toNat) / 3 ∧
    (BitVec.ofNat 8 ((c.toNat + 2 * d.toNat) / 3)).toNat = (c.toNat + 2 * d.toNat) / 3 := by
  have := c.isLt; have := d.isLt
  simp only [BitVec.toNat_ofNat]
  omega

theorem colourDec_texel (s : State) (i : Fin 16) :
    (commandRun .colourDec s).texel[i] = texelOf
      (let bytes := s.blockHalf (!isBC1 (normalise s.cfg))
       let code := BitVec.ofFin (colourIndex bytes i)
       if threeColour Config.bc23ColourMode (isBC1 (normalise s.cfg)) (endpointA bytes) (endpointB bytes)
       then midpointCode (unpack565 (endpointA bytes)) (unpack565 (endpointB bytes)) code
       else thirdsCode (unpack565 (endpointA bytes)) (unpack565 (endpointB bytes)) code) := by
  simp only [← colourCodebook_getElem]
  simp [commandRun, decodeColour, Config.params, colourHigh]

/-- Settles O51. The texel is the codebook's entry at its index, and the codebook is chosen by the mode. -/
theorem colourDecResult : Obligations.ColourDecResult := by
  rintro s bytes c d three rfl rfl rfl hthree
  refine ⟨_, exec_of_not_due rfl, rfl, fun i => ?_⟩
  have htexel := colourDec_texel s i
  have hmode : threeColour Config.bc23ColourMode (isBC1 (normalise s.cfg)) (endpointA (s.blockHalf (!isBC1 (normalise s.cfg))))
      (endpointB (s.blockHalf (!isBC1 (normalise s.cfg)))) = three := by
    rw [Bool.eq_iff_iff, threeColour_iff, hthree]
  simp only [hmode] at htexel
  rw [State.complete_texel, htexel]
  generalize unpack565 (endpointA (s.blockHalf (!isBC1 (normalise s.cfg)))) = c
  generalize unpack565 (endpointB (s.blockHalf (!isBC1 (normalise s.cfg)))) = d
  obtain ⟨hr2, hr4, hr4'⟩ := toNat_blend c.r d.r
  obtain ⟨hg2, hg4, hg4'⟩ := toNat_blend c.g d.g
  obtain ⟨hb2, hb4, hb4'⟩ := toNat_blend c.b d.b
  refine ⟨fun h => ?_, fun h => ?_, fun h => ?_, fun h h3 => ?_, fun h h3 => ?_⟩ <;> rw [h]
  · cases three <;> rfl
  · cases three <;> rfl
  · simp only [texelR_texelOf, texelG_texelOf, texelB_texelOf, texelA_texelOf]
    cases three
    · exact ⟨hr4, hg4, hb4, rfl⟩
    · exact ⟨hr2, hg2, hb2, rfl⟩
  · rw [if_pos h3]
    exact (by decide : texelOf ⟨0#8, 0#8, 0#8, 0#8⟩ = 0x00000000#32)
  · rw [h3]
    simp only [texelR_texelOf, texelG_texelOf, texelB_texelOf, texelA_texelOf]
    exact ⟨hr4', hg4', hb4', rfl⟩

end Sys2Proof.Machine
end

section
/-! PROOFS. The fits seen from outside: the dispatcher, the modes of candidates, and what packing or decoding a candidate again
gives (R199, R231, R340, R346, R415). -/

namespace Sys2Proof.Machine

/-! ### The dispatcher (R415) -/

theorem exec_fitAuto {s : State} (hvalid : s.ps.valid = true) :
    exec .fitAuto s = .next (fitAutoRun Config.params s).complete :=
  exec_of_not_due (if_pos hvalid)

theorem exec_fitRange {s : State} (hvalid : s.ps.valid = true) :
    exec .fitRange s = .next (fitRangeRun Config.params s).complete :=
  exec_of_not_due (if_pos hvalid)

theorem exec_fitCluster {s : State} (hvalid : s.ps.valid = true) :
    exec .fitCluster s = .next (fitClusterRun Config.params s).complete :=
  exec_of_not_due (if_pos hvalid)

theorem exec_fitSingle {s : State} (hvalid : s.ps.valid = true) (hcount : s.ps.count = 1) :
    exec .fitSingle s = .next (fitSingleRun Config.params s).complete :=
  exec_of_not_due ((if_pos hvalid).trans (if_pos hcount))

/-- Settles O33. The three cases of the dispatcher are those of the statement. -/
theorem fitAutoDispatch : Obligations.FitAutoDispatch := by
  intro s hvalid
  rw [exec_fitAuto hvalid]
  rcases fitAutoRun_cases Config.params s with ⟨hone, hrun⟩ | ⟨hone, hrange, hrun⟩ | ⟨hone, hrange, hrun⟩ <;> rw [hrun]
  · rw [if_pos hone, exec_fitSingle hvalid hone]
  · rw [if_neg hone, if_pos hrange, exec_fitRange hvalid]
  · rw [if_neg hone, if_neg hrange, exec_fitCluster hvalid]

/-! ### The modes of candidates (R199, R231) -/

theorem fitTrial_of_not_bc1 {β : Type} {f : BitVec 9} (hf : isBC1 f = false) (tr : Bool)
    (trial3 trial4 : State × β → State × β) (x : State × β) : fitTrial f tr trial3 trial4 x = trial4 x := by
  simp [fitTrial, hf]

theorem fitTrial_of_transparent {β : Type} {f : BitVec 9} (hf : isBC1 f = true) (trial3 trial4 : State × β → State × β)
    (x : State × β) : fitTrial f true trial3 trial4 x = trial3 x := by
  simp [fitTrial, hf]

theorem fitTrial_of_opaque {β : Type} {f : BitVec 9} (hf : isBC1 f = true) (trial3 trial4 : State × β → State × β)
    (x : State × β) : fitTrial f false trial3 trial4 x = trial4 (trial3 x) := by
  simp [fitTrial, hf]

/-- A candidate, if there is one, has the mode `mode4`. -/
def HasMode (mode4 : Bool) (t : State) : Prop := t.fit.valid = true → t.fit.mode4 = mode4

theorem hasMode_beginFit (mode4 : Bool) (s : State) (kind : FitKind) : HasMode mode4 (s.beginFit kind) := Bool.noConfusion

theorem rangeTrial_hasMode (mode4 : Bool) (start stop : Vec3) (codes : List Vec3) {x : State × F32} (hx : HasMode mode4 x.1) :
    HasMode mode4 (rangeTrial mode4 start stop codes x).1 := by
  rcases rangeTrial_cases mode4 start stop codes x _ rfl with ⟨-, h⟩ | ⟨-, h⟩ <;> rw [h]
  · exact hx
  · exact fun _ => rfl

theorem singleTrial_hasMode (p : Params) (mode4 : Bool) (col : SingleColour) {x : State × Nat} (hx : HasMode mode4 x.1) :
    HasMode mode4 (singleTrial p mode4 col x).1 := by
  rcases singleTrial_cases p mode4 col x _ rfl with ⟨-, h⟩ | ⟨-, h⟩ <;> rw [h]
  · exact hx
  · exact fun _ => rfl

theorem clusterTrial_hasMode (size : CodebookSize) (axis : Vec3) {x : State × F32} (hx : HasMode (isFour size) x.1) :
    HasMode (isFour size) (clusterTrial size axis x).1 := by
  rcases clusterTrial_cases size axis x _ _ rfl rfl with ⟨-, h⟩ | ⟨-, h⟩ <;> rw [h]
  · exact hx
  · exact fun _ => rfl

/-- The trial sequence runs the trial of one mode only outside BC1, and for a transparent BC1 set. -/
theorem fitTrial_hasMode {β : Type} {trial3 trial4 : State × β → State × β} {f : BitVec 9} {tr : Bool}
    (h3 : ∀ x, HasMode false x.1 → HasMode false (trial3 x).1) (h4 : ∀ x, HasMode true x.1 → HasMode true (trial4 x).1)
    {x : State × β} (hx : ∀ mode4, HasMode mode4 x.1) :
    (isBC1 f = false → HasMode true (fitTrial f tr trial3 trial4 x).1) ∧
    (isBC1 f = true → tr = true → HasMode false (fitTrial f tr trial3 trial4 x).1) := by
  refine ⟨fun hf => ?_, fun hf htr => ?_⟩
  · rw [fitTrial_of_not_bc1 hf]
    exact h4 x (hx true)
  · rw [htr, fitTrial_of_transparent hf]
    exact h3 x (hx false)

/-- The modes a fit of the set `ps` may write (R199, R231). -/
def AllowedMode (ps : PointSet) (t : State) : Prop :=
  (isBC1 ps.cfg = false → HasMode true t) ∧ (isBC1 ps.cfg = true → ps.transparent = true → HasMode false t)

theorem fitRangeRun_mode (p : Params) (s : State) : AllowedMode s.ps (fitRangeRun p s) :=
  fitTrial_hasMode (fun _ h => rangeTrial_hasMode false _ _ _ h) (fun _ h => rangeTrial_hasMode true _ _ _ h)
    (x := (s.beginFit .range, F32.fltMax)) fun mode4 => hasMode_beginFit mode4 s _

theorem fitSingleRun_mode (p : Params) (s : State) : AllowedMode s.ps (fitSingleRun p s) :=
  fitTrial_hasMode (fun _ h => singleTrial_hasMode p false _ h) (fun _ h => singleTrial_hasMode p true _ h)
    (x := (s.beginFit .single, 2 ^ 31 - 1)) fun mode4 => hasMode_beginFit mode4 s _

theorem fitClusterRun_mode (p : Params) (s : State) : AllowedMode s.ps (fitClusterRun p s) :=
  fitTrial_hasMode (fun _ h => clusterTrial_hasMode .three _ h) (fun _ h => clusterTrial_hasMode .four _ h)
    (x := (s.beginFit .cluster, F32.fltMax)) fun mode4 => hasMode_beginFit mode4 s _

theorem fitAutoRun_mode (p : Params) (s : State) : AllowedMode s.ps (fitAutoRun p s) := by
  rcases fitAutoRun_cases p s with ⟨-, h⟩ | ⟨-, -, h⟩ | ⟨-, -, h⟩ <;> rw [h]
  · exact fitSingleRun_mode p s
  · exact fitRangeRun_mode p s
  · exact fitClusterRun_mode p s

/-- What every fit command leaves: a state of the relation, with an allowed mode. -/
theorem commandRun_fitState {i : Instr} (hi : i ∈ [Instr.fitAuto, .fitSingle, .fitRange, .fitCluster]) (s : State) :
    (∃ kind, FitState s kind (commandRun i s)) ∧ AllowedMode s.ps (commandRun i s) := by
  simp only [List.mem_cons, List.not_mem_nil, or_false] at hi
  rcases hi with rfl | rfl | rfl | rfl
  · exact ⟨fitAutoRun_state _ s, fitAutoRun_mode _ s⟩
  · exact ⟨⟨_, fitSingleRun_state _ s⟩, fitSingleRun_mode _ s⟩
  · exact ⟨⟨_, fitRangeRun_state _ s⟩, fitRangeRun_mode _ s⟩
  · exact ⟨⟨_, fitClusterRun_state _ s⟩, fitClusterRun_mode _ s⟩

/-- Settles O34. -/
theorem trialModes : Obligations.TrialModes := by
  intro i s hi hdue
  obtain ⟨h4, h3⟩ := (commandRun_fitState hi s).2
  exact ⟨_, exec_of_not_due hdue, rfl, fun hv hf => h4 hf hv, fun hv hf htr => h3 hf htr hv⟩

/-! ### Packing a candidate again (R340, R341) -/

theorem candidateBytes_eq (mode4 : Bool) (start stop : Vec3) (idx : Vector (BitVec 2) 16) :
    candidateBytes mode4 start stop idx =
      if mode4 then writeColourBlock4 start stop idx else writeColourBlock3 start stop idx := rfl

/-- A pack command over a candidate whose packing the colour half already holds. -/
theorem exec_pack_of_packed {t : State} (hfinite : t.fit.lanesFinite = true)
    (hhalf : t.blockHalf (colourHigh (normalise t.cfg)) = candidateBytes t.fit.mode4 t.fit.start t.fit.stop t.fit.idx) :
    exec (if t.fit.mode4 then .pack4 else .pack3) t = .next t.complete := by
  cases hmode : t.fit.mode4 with
  | true =>
    rw [if_pos rfl, exec_of_not_due (i := .pack4) (s := t) (if_pos hfinite)]
    rw [hmode, candidateBytes_eq, if_pos rfl] at hhalf
    rw [commandRun, ← hhalf, writeBlockHalf_blockHalf]
  | false =>
    rw [if_neg Bool.false_ne_true, exec_of_not_due (i := .pack3) (s := t) (if_pos hfinite)]
    rw [hmode, candidateBytes_eq, if_neg Bool.false_ne_true] at hhalf
    rw [commandRun, ← hhalf, writeBlockHalf_blockHalf]

/-- Settles O35. The colour half already holds the packing of the fit-result registers, and the state is a completed one. -/
theorem fitThenPackReproduces : Obligations.FitThenPackReproduces := by
  intro i s t hi hdue hexec hvalid hfinite hlayout
  obtain rfl : (commandRun i s).complete = t := Host.Outcome.next.inj ((exec_of_not_due hdue).symm.trans hexec)
  obtain ⟨kind, hfit⟩ := (commandRun_fitState hi s).1
  refine exec_pack_of_packed hfinite ?_
  have hhigh : colourHigh (normalise (commandRun i s).complete.cfg) = colourHigh s.ps.cfg := by
    rw [State.complete_cfg, hfit.sameControl.cfg, colourHigh, colourHigh, hlayout]
  rw [hhigh, blockHalf_congr (State.complete_block _)]
  exact hfit.blockHalf_eq hvalid

/-! ### The colour modes and the core's own blocks (R346) -/

/-- A 4-colour block decodes alike under both values of P_BC23_COLOUR_MODE. -/
theorem decodeColour_candidate4 (start stop : Vec3) (idx : Vector (BitVec 2) 16) :
    decodeColour .compare (candidateBytes true start stop idx) false =
      decodeColour .force4 (candidateBytes true start stop idx) false := by
  apply Vector.ext
  intro i hi
  have hdecode (mode : ColourMode) := decodeColour_packBlock4 mode false (floatTo565 start) (floatTo565 stop) idx ⟨i, hi⟩
  exact (hdecode .compare).trans (hdecode .force4).symm

/-- The colour half that a fit leaves in BC2 and BC3. -/
theorem FitState.modeFree {s t : State} {kind : FitKind} (h : FitState s kind t) (hmode : AllowedMode s.ps t)
    (hvalid : t.fit.valid = true) (hformat : isBC1 s.ps.cfg = false) :
    decodeColour .compare (t.blockHalf true) false = decodeColour .force4 (t.blockHalf true) false := by
  have hhalf := h.blockHalf_eq hvalid
  rw [colourHigh, hformat, hmode.1 hformat hvalid] at hhalf
  rw [show t.blockHalf true = _ from hhalf]
  exact decodeColour_candidate4 ..

theorem blockHalf_putAlpha_high (p : Params) (s : State) (f : BitVec 9) (m : BitVec 16) :
    (s.putAlpha p f m).blockHalf true = s.blockHalf true := by
  apply Vector.ext
  intro k hk
  simp only [State.blockHalf, Vector.getElem_ofFn]
  exact blockByte_putAlpha p s f m (by simp)

theorem compressRun_modeFree (p : Params) (m : BitVec 16) (s : State) (hvalid : (compressRun p m s).fit.valid = true)
    (hformat : isBC1 (compressRun p m s).ps.cfg = false) :
    decodeColour .compare ((compressRun p m s).blockHalf true) false =
      decodeColour .force4 ((compressRun p m s).blockHalf true) false := by
  obtain ⟨-, hps, hfit⟩ := compressRun_keeps p m s
  obtain ⟨kind, hstate⟩ := fitAutoRun_state p (s.withPointSet m)
  rw [hps] at hformat
  rw [hfit] at hvalid
  rw [compressRun, blockHalf_putAlpha_high]
  exact hstate.modeFree (fitAutoRun_mode p _) hvalid hformat

/-- Settles O50. -/
theorem encodedBlocksModeFree : Obligations.EncodedBlocksModeFree := by
  intro i s t hi hdue hexec hvalid hformat
  obtain rfl : (commandRun i s).complete = t := Host.Outcome.next.inj ((exec_of_not_due hdue).symm.trans hexec)
  rw [blockHalf_congr (State.complete_block _)]
  by_cases hfits : i ∈ [Instr.fitAuto, .fitSingle, .fitRange, .fitCluster]
  · obtain ⟨⟨kind, hfit⟩, hmode⟩ := commandRun_fitState hfits s
    rw [State.complete_ps, hfit.ps_eq] at hformat
    exact hfit.modeFree hmode hvalid hformat
  · obtain rfl | rfl : i = .compress ∨ i = .compressMasked := by
      simp only [List.mem_cons, List.not_mem_nil, or_false] at hi hfits
      tauto
    · exact compressRun_modeFree _ _ s hvalid hformat
    · exact compressRun_modeFree _ _ s hvalid hformat

end Sys2Proof.Machine
end

section
/-! PROOFS. The whole-block commands (`47_commands.md` R411 to R413) and their stages, and what masked-out slots and MASK cannot
influence (R198, R371, R386). -/

namespace Sys2Proof.Machine

/-! ### The trial sequences of the fits (R231) -/

/-- The trials of a range fit of the set `ps`. -/
def rangeTrials (p : Params) (ps : PointSet) : State × F32 → State × F32 :=
  let e := rangeEndpoints p.libm ps
  fitTrial ps.cfg ps.transparent (rangeTrial false e.1 e.2 (rangeCodes3 e.1 e.2)) (rangeTrial true e.1 e.2 (rangeCodes4 e.1 e.2))

/-- The trials of a single-colour fit of the set `ps`. -/
def singleTrials (p : Params) (ps : PointSet) : State × Nat → State × Nat :=
  fitTrial ps.cfg ps.transparent (singleTrial p false (singleColour ps.point[0])) (singleTrial p true (singleColour ps.point[0]))

/-- The trials of a cluster fit of the set `ps`. -/
def clusterTrials (p : Params) (ps : PointSet) : State × F32 → State × F32 :=
  fitTrial ps.cfg ps.transparent (clusterTrial .three (principalAxis p.libm ps)) (clusterTrial .four (principalAxis p.libm ps))

theorem fitRangeRun_eq (p : Params) (s : State) : fitRangeRun p s =
    { (rangeTrials p s.ps (s.beginFit .range, F32.fltMax)).1 with
      besterr := (rangeTrials p s.ps (s.beginFit .range, F32.fltMax)).2 } := rfl

theorem fitSingleRun_eq (p : Params) (s : State) : fitSingleRun p s =
    { (singleTrials p s.ps (s.beginFit .single, 2 ^ 31 - 1)).1 with
      besterrI := BitVec.ofNat 32 (singleTrials p s.ps (s.beginFit .single, 2 ^ 31 - 1)).2 } := rfl

theorem fitClusterRun_eq (p : Params) (s : State) : fitClusterRun p s =
    { (clusterTrials p s.ps (s.beginFit .cluster, F32.fltMax)).1 with
      besterr := (clusterTrials p s.ps (s.beginFit .cluster, F32.fltMax)).2 } := rfl

/-! ### State changes a fit does not see -/

/-- A change of the state of fields that no fit reads or writes: it commutes with every write a fit makes. -/
structure FitBlind (g : State → State) : Prop where
  ps : ∀ t, (g t).ps = t.ps
  order : ∀ t, (g t).order = t.order
  beginFit : ∀ t kind, (g t).beginFit kind = g (t.beginFit kind)
  candidate : ∀ t mode4 start stop idx, (g t).writeCandidate mode4 start stop idx = g (t.writeCandidate mode4 start stop idx)
  besterr : ∀ t e, ({ g t with besterr := e } : State) = g { t with besterr := e }
  besterrI : ∀ t e, ({ g t with besterrI := e } : State) = g { t with besterrI := e }
  history : ∀ t o n, ({ g t with order := o, iters := n } : State) = g { t with order := o, iters := n }
  bestIter : ∀ t b, ({ g t with bestIter := b } : State) = g { t with bestIter := b }

theorem fitBlind_texel (T : Vector Word 16) : FitBlind fun t => { t with texel := T } :=
  ⟨fun _ => rfl, fun _ => rfl, fun _ _ => rfl, fun _ _ _ _ _ => rfl, fun _ _ => rfl, fun _ _ => rfl, fun _ _ _ => rfl,
    fun _ _ => rfl⟩

theorem fitBlind_mask (m : BitVec 16) : FitBlind fun t => { t with mask := m } :=
  ⟨fun _ => rfl, fun _ => rfl, fun _ _ => rfl, fun _ _ _ _ _ => rfl, fun _ _ => rfl, fun _ _ => rfl, fun _ _ _ => rfl,
    fun _ _ => rfl⟩

theorem fitBlind_complete : FitBlind State.complete :=
  ⟨fun _ => rfl, fun _ => rfl, fun _ _ => rfl, fun _ _ _ _ _ => rfl, fun _ _ => rfl, fun _ _ => rfl, fun _ _ _ => rfl,
    fun _ _ => rfl⟩

/-- A trial, or a sequence of trials, commutes with a change of the state. -/
def TrialBlind {β : Type} (g : State → State) (trial : State × β → State × β) : Prop :=
  ∀ (s : State) (b : β), trial (g s, b) = (g (trial (s, b)).1, (trial (s, b)).2)

theorem TrialBlind.fitTrial {β : Type} {g : State → State} {trial3 trial4 : State × β → State × β}
    (h3 : TrialBlind g trial3) (h4 : TrialBlind g trial4) (f : BitVec 9) (tr : Bool) :
    TrialBlind g (fitTrial f tr trial3 trial4) := by
  intro s b
  cases hf : isBC1 f with
  | false =>
    rw [fitTrial_of_not_bc1 hf, fitTrial_of_not_bc1 hf]
    exact h4 s b
  | true =>
    cases tr with
    | true =>
      rw [fitTrial_of_transparent hf, fitTrial_of_transparent hf]
      exact h3 s b
    | false =>
      rw [fitTrial_of_opaque hf, fitTrial_of_opaque hf, h3]
      exact h4 _ _

namespace FitBlind

variable {g : State → State}

theorem rangeTrial (hg : FitBlind g) (mode4 : Bool) (start stop : Vec3) (codes : List Vec3) :
    TrialBlind g (rangeTrial mode4 start stop codes) := by
  intro s b
  unfold Machine.rangeTrial
  simp only [hg.ps, hg.candidate]
  split <;> rfl

theorem singleTrial (hg : FitBlind g) (p : Params) (mode4 : Bool) (col : SingleColour) :
    TrialBlind g (singleTrial p mode4 col) := by
  intro s b
  unfold Machine.singleTrial
  generalize computeEndPoints p (if mode4 then .four else .three) col = r
  simp only [hg.ps, hg.candidate]
  split <;> rfl

theorem clusterTrial (hg : FitBlind g) (size : CodebookSize) (axis : Vec3) : TrialBlind g (clusterTrial size axis) := by
  intro s b
  obtain ⟨r, hr⟩ : ∃ r, r = clusterSearch size s.ps.cfg s.ps.used axis s.order b := ⟨_, rfl⟩
  have hr' : r = clusterSearch size (g s).ps.cfg (g s).ps.used axis (g s).order b := by rw [hg.ps, hg.order, hr]
  rcases clusterTrial_cases size axis (s, b) r _ hr rfl with ⟨hlose, h⟩ | ⟨hwin, h⟩ <;>
    rcases clusterTrial_cases size axis (g s, b) r _ hr' (hg.history s r.order r.tried).symm with
      ⟨hlose', h'⟩ | ⟨hwin', h'⟩
  · rw [h, h']
  · exact absurd (hlose.symm.trans hwin') Bool.false_ne_true
  · exact absurd (hlose'.symm.trans hwin) Bool.false_ne_true
  · rw [h, h', hg.candidate, hg.bestIter, hg.ps]

theorem fitRangeRun (hg : FitBlind g) (p : Params) (s : State) : fitRangeRun p (g s) = g (fitRangeRun p s) := by
  have htrials : TrialBlind g (rangeTrials p s.ps) := (hg.rangeTrial _ _ _ _).fitTrial (hg.rangeTrial _ _ _ _) _ _
  rw [fitRangeRun_eq, fitRangeRun_eq, hg.ps, hg.beginFit, htrials]
  exact hg.besterr (rangeTrials p s.ps (s.beginFit .range, F32.fltMax)).1 _

theorem fitSingleRun (hg : FitBlind g) (p : Params) (s : State) : fitSingleRun p (g s) = g (fitSingleRun p s) := by
  have htrials : TrialBlind g (singleTrials p s.ps) := (hg.singleTrial _ _ _).fitTrial (hg.singleTrial _ _ _) _ _
  rw [fitSingleRun_eq, fitSingleRun_eq, hg.ps, hg.beginFit, htrials]
  exact hg.besterrI (singleTrials p s.ps (s.beginFit .single, 2 ^ 31 - 1)).1 _

theorem fitClusterRun (hg : FitBlind g) (p : Params) (s : State) : fitClusterRun p (g s) = g (fitClusterRun p s) := by
  have htrials : TrialBlind g (clusterTrials p s.ps) := (hg.clusterTrial _ _).fitTrial (hg.clusterTrial _ _) _ _
  rw [fitClusterRun_eq, fitClusterRun_eq, hg.ps, hg.beginFit, htrials]
  exact hg.besterr (clusterTrials p s.ps (s.beginFit .cluster, F32.fltMax)).1 _

/-- A fit commutes with a change of fields it does not see. -/
theorem fitAutoRun (hg : FitBlind g) (p : Params) (s : State) : fitAutoRun p (g s) = g (fitAutoRun p s) := by
  unfold Machine.fitAutoRun
  rw [hg.ps, hg.fitSingleRun, hg.fitRangeRun, hg.fitClusterRun]
  split
  · rfl
  · split <;> rfl

end FitBlind

/-! ### Compression as its stages (R411, R412) -/

/-- The alpha part of a compression is the encoder of the one format (R411). -/
theorem putAlpha_of_format (p : Params) (s : State) (raw : BitVec 9) (m : BitVec 16) :
    (isBC1 (normalise raw) = true → s.putAlpha p (normalise raw) m = s) ∧
    (isBC2 (normalise raw) = true → s.putAlpha p (normalise raw) m = s.putAlpha3 m) ∧
    (isBC3 (normalise raw) = true → s.putAlpha p (normalise raw) m = s.putAlpha5 p m) := by
  unfold State.putAlpha
  rcases normalise_format raw with ⟨h1, h2, h3⟩ | ⟨h1, h2, h3⟩ | ⟨h1, h2, h3⟩ <;> simp [h1, h2, h3]

/-- Settles O29. A completed stage is one the next stage cannot tell from an uncompleted one, because a fit does not see the
status. -/
theorem compressMaskedIsItsStages : Obligations.CompressMaskedIsItsStages := by
  intro s
  have hfit : exec .fitAuto (s.withPointSet s.mask).complete =
      .next (fitAutoRun Config.params (s.withPointSet s.mask)).complete := by
    rw [exec_fitAuto rfl, fitBlind_complete.fitAutoRun]
    rfl
  have hmask : (fitAutoRun Config.params (s.withPointSet s.mask)).complete.mask = s.mask := by
    obtain ⟨kind, hstate⟩ := fitAutoRun_state Config.params (s.withPointSet s.mask)
    exact hstate.sameControl.mask
  obtain ⟨h1, h2, h3⟩ := putAlpha_of_format Config.params (fitAutoRun Config.params (s.withPointSet s.mask)) s.cfg s.mask
  refine ⟨_, _, _, exec_of_not_due rfl, exec_of_not_due rfl, hfit, fun hf => ?_, fun hf => ?_, fun hf => ?_⟩
  · rw [commandRun, compressRun, h1 hf]
  · rw [exec_of_not_due rfl, commandRun, commandRun, compressRun, h2 hf, hmask]
    rfl
  · rw [exec_of_not_due rfl, commandRun, commandRun, compressRun, h3 hf, hmask]
    rfl

/-! ### MASK and COMPRESS (R36, R411) -/

theorem putAlpha_with_mask (p : Params) (s : State) (f : BitVec 9) (m m' : BitVec 16) :
    ({ s with mask := m' } : State).putAlpha p f m = { s.putAlpha p f m with mask := m' } := by
  unfold State.putAlpha
  cases isBC2 f <;> cases isBC3 f <;> rfl

/-- A compression under a given mask does not see MASK. -/
theorem compressRun_with_mask (p : Params) (m m' : BitVec 16) (s : State) :
    compressRun p m { s with mask := m' } = { compressRun p m s with mask := m' } := by
  have hfit := (fitBlind_mask m').fitAutoRun p (s.withPointSet m)
  unfold compressRun
  rw [← putAlpha_with_mask, ← hfit]
  rfl

/-- Settles O30. -/
theorem compressIsFullMask : Obligations.CompressIsFullMask := by
  intro s
  have hkeep := compressRun_sameControl Config.params 0xFFFF#16 s
  refine ⟨_, exec_of_not_due rfl, hkeep.mask, ?_, fun m => ?_⟩
  · rw [exec_of_not_due rfl]
    exact congrArg (fun t => Host.Outcome.next (State.complete t)) (compressRun_with_mask _ _ _ s)
  · rw [exec_of_not_due rfl]
    exact congrArg (fun t => Host.Outcome.next (State.complete t)) (compressRun_with_mask _ _ _ s)

/-! ### Masked-out slots (R198, R371, R386) -/

/-- Two tiles agree on the valid slots. -/
def AgreeOnValid (m : BitVec 16) (T U : Vector Word 16) : Prop := ∀ k : Fin 16, slotValid m k = true → U[k] = T[k]

theorem encodeAlpha3_congr {m : BitVec 16} {T U : Vector Word 16} (h : AgreeOnValid m T U) :
    encodeAlpha3 U m = encodeAlpha3 T m := by
  have hnibble (i : Fin 16) : alphaNibble U m i = alphaNibble T m i := by
    unfold alphaNibble
    split
    · next hi => rw [h i hi]
    · rfl
  simp only [encodeAlpha3, hnibble]

theorem alphaRanges_congr {m : BitVec 16} {T U : Vector Word 16} (h : AgreeOnValid m T U) :
    alphaRanges U m = alphaRanges T m := by
  unfold alphaRanges
  congr 1
  funext r i
  split
  · next hi => rw [h i hi]
  · rfl

theorem fitCodes_congr {m : BitVec 16} {T U : Vector Word 16} (h : AgreeOnValid m T U) (codes : Vector Nat 8) :
    fitCodes U m codes = fitCodes T m codes := by
  have hindex (i : Fin 16) : alphaIndex U m codes i = alphaIndex T m codes i := by
    unfold alphaIndex
    split
    · next hi => rw [h i hi]
    · rfl
  have herror (i : Fin 16) : alphaError U m codes i = alphaError T m codes i := by
    unfold alphaError
    split
    · next hi => rw [h i hi]
    · rfl
  simp only [fitCodes, hindex, herror]

theorem encodeAlpha5_congr {m : BitVec 16} {T U : Vector Word 16} (h : AgreeOnValid m T U) (p : Params) :
    encodeAlpha5 p U m = encodeAlpha5 p T m := by
  have hranges : encoderRanges p U m = encoderRanges p T m := by rw [encoderRanges, encoderRanges, alphaRanges_congr h]
  rw [encodeAlpha5, encodeAlpha5, hranges, fitCodes_congr h, fitCodes_congr h]

theorem putAlpha3_with_texel {s : State} {m : BitVec 16} {T : Vector Word 16} (h : AgreeOnValid m s.texel T) :
    ({ s with texel := T } : State).putAlpha3 m = { s.putAlpha3 m with texel := T } := by
  simp only [State.putAlpha3, encodeAlpha3_congr h]
  rfl

theorem putAlpha5_with_texel (p : Params) {s : State} {m : BitVec 16} {T : Vector Word 16} (h : AgreeOnValid m s.texel T) :
    ({ s with texel := T } : State).putAlpha5 p m = { s.putAlpha5 p m with texel := T } := by
  simp only [State.putAlpha5, encodeAlpha5_congr h]
  rfl

theorem putAlpha_with_texel (p : Params) {s : State} (f : BitVec 9) {m : BitVec 16} {T : Vector Word 16}
    (h : AgreeOnValid m s.texel T) :
    ({ s with texel := T } : State).putAlpha p f m = { s.putAlpha p f m with texel := T } := by
  unfold State.putAlpha
  cases isBC2 f <;> cases isBC3 f
  · rfl
  · exact putAlpha5_with_texel p h
  · exact putAlpha3_with_texel h
  · simp only [if_true, putAlpha3_with_texel h]
    exact putAlpha5_with_texel p (s := s.putAlpha3 m) h

theorem withPointSet_with_texel {s : State} {m : BitVec 16} {T : Vector Word 16} (h : AgreeOnValid m s.texel T) :
    ({ s with texel := T } : State).withPointSet m = { s.withPointSet m with texel := T } := by
  simp only [State.withPointSet, buildPointSet_congr h]

theorem compressRun_with_texel (p : Params) {s : State} {m : BitVec 16} {T : Vector Word 16}
    (h : AgreeOnValid m s.texel T) :
    compressRun p m { s with texel := T } = { compressRun p m s with texel := T } := by
  have hfit := (fitBlind_texel T).fitAutoRun p (s.withPointSet m)
  obtain ⟨kind, hstate⟩ := fitAutoRun_state p (s.withPointSet m)
  have htexel : (fitAutoRun p (s.withPointSet m)).texel = s.texel := hstate.sameOperands.1
  unfold compressRun
  rw [withPointSet_with_texel h, hfit]
  exact putAlpha_with_texel p _ (htexel ▸ h)

/-- Settles O28. The builder and the encoders read no masked-out slot, and a fit reads no texel at all. -/
theorem maskedSlotsNeverInfluence : Obligations.MaskedSlotsNeverInfluence := by
  intro i s t T hi h hexec
  have hlift (hdue : stepError i s = none) (hdue' : stepError i { s with texel := T } = none)
      (hrun : commandRun i { s with texel := T } = { commandRun i s with texel := T }) :
      exec i { s with texel := T } = .next { t with texel := T } := by
    obtain rfl : (commandRun i s).complete = t := Host.Outcome.next.inj ((exec_of_not_due hdue).symm.trans hexec)
    rw [exec_of_not_due hdue', hrun]
    rfl
  simp only [List.mem_cons, List.not_mem_nil, or_false] at hi
  rcases hi with rfl | rfl | rfl | rfl
  · exact hlift rfl rfl (withPointSet_with_texel h)
  · exact hlift rfl rfl (compressRun_with_texel _ h)
  · exact hlift rfl rfl (putAlpha3_with_texel h)
  · exact hlift rfl rfl (putAlpha5_with_texel _ h)

/-! ### Decompression (R413, R416) -/

/-- The texels DECOMPRESS writes are those of COLOUR_DEC, with the decoded alphas outside BC1. -/
theorem writeTexels_then_alphas (s : State) (out : Vector Rgba 16) (al : Vector Byte 16) :
    (s.writeTexels out).writeAlphas al = s.writeTexels (Vector.ofFn fun i => { out[i] with a := al[i] }) := by
  have htexel : ((s.writeTexels out).writeAlphas al).texel =
      (s.writeTexels (Vector.ofFn fun i => { out[i] with a := al[i] })).texel := by
    apply Vector.ext
    intro i hi
    simp [withAlpha_eq]
  exact congrArg (fun T => { s with texel := T }) htexel

/-- The texels of DECOMPRESS, by format (R413). -/
theorem decompressTexels_of_format (p : Params) (s : State) :
    (isBC1 (normalise s.cfg) = true →
      decompressTexels p s = decodeColour p.bc23ColourMode (s.blockHalf (colourHigh (normalise s.cfg))) (isBC1 (normalise s.cfg))) ∧
    (isBC2 (normalise s.cfg) = true →
      decompressTexels p s = Vector.ofFn fun i =>
        { (decodeColour p.bc23ColourMode (s.blockHalf (colourHigh (normalise s.cfg))) (isBC1 (normalise s.cfg)))[i] with
          a := (decodeAlpha3 (s.blockHalf false))[i] }) ∧
    (isBC3 (normalise s.cfg) = true →
      decompressTexels p s = Vector.ofFn fun i =>
        { (decodeColour p.bc23ColourMode (s.blockHalf (colourHigh (normalise s.cfg))) (isBC1 (normalise s.cfg)))[i] with
          a := (decodeAlpha5 (s.blockHalf false))[i] }) := by
  unfold decompressTexels
  rcases normalise_format s.cfg with ⟨h1, h2, h3⟩ | ⟨h1, h2, h3⟩ | ⟨h1, h2, h3⟩ <;> simp only [h1, h2, h3]
  · refine ⟨fun _ => ?_, fun h => Bool.noConfusion h, fun h => Bool.noConfusion h⟩
    apply Vector.ext
    intro i hi
    rw [Vector.getElem_ofFn]
    rfl
  · exact ⟨fun h => Bool.noConfusion h, fun _ => rfl, fun h => Bool.noConfusion h⟩
  · exact ⟨fun h => Bool.noConfusion h, fun h => Bool.noConfusion h, fun _ => rfl⟩

theorem complete_writeAlphas (s : State) (al : Vector Byte 16) :
    (s.complete.writeAlphas al).complete = (s.writeAlphas al).complete := rfl

/-- Settles O31. -/
theorem decompressIsItsStages : Obligations.DecompressIsItsStages := by
  intro s
  obtain ⟨h1, h2, h3⟩ := decompressTexels_of_format Config.params s
  have hhalf (out : Vector Rgba 16) : (s.writeTexels out).complete.blockHalf false = s.blockHalf false :=
    blockHalf_congr rfl false
  refine ⟨_, _, exec_of_not_due rfl, exec_of_not_due rfl, fun hf => ?_, fun hf => ?_, fun hf => ?_⟩
  · rw [commandRun, commandRun, h1 hf]
  · rw [exec_of_not_due rfl, commandRun, commandRun, commandRun, hhalf, complete_writeAlphas, writeTexels_then_alphas, h2 hf]
  · rw [exec_of_not_due rfl, commandRun, commandRun, commandRun, hhalf, complete_writeAlphas, writeTexels_then_alphas, h3 hf]

/-- What DECOMPRESS writes depends on the flags and the bytes of the format (R413). -/
theorem decompressTexels_congr (p : Params) {s t : State} (hcfg : normalise t.cfg = normalise s.cfg)
    (hbytes : ∀ n : Fin 16, n.val < bytesPerBlock (normalise s.cfg) → t.blockByte n = s.blockByte n) :
    decompressTexels p t = decompressTexels p s := by
  have hhalf (high : Bool) (hhigh : high = true → isBC1 (normalise s.cfg) = false) : t.blockHalf high = s.blockHalf high := by
    simp only [State.blockHalf]
    congr 1
    funext k
    refine hbytes _ ?_
    unfold bytesPerBlock
    cases high with
    | false => simp only [Bool.false_eq_true, if_false]; split <;> omega
    | true => simp only [if_true, hhigh rfl, Bool.false_eq_true, if_false]; omega
  simp only [decompressTexels]
  rw [hcfg, hhalf (colourHigh (normalise s.cfg)) (by simp [colourHigh]), hhalf false (fun h => Bool.noConfusion h)]

theorem writeTexels_complete_writeTexels (s : State) (out : Vector Rgba 16) :
    ((s.writeTexels out).complete.writeTexels out).complete = (s.writeTexels out).complete := by
  unfold State.writeTexels
  generalize (Vector.ofFn fun i : Fin 16 => texelOf (out[i])) = T
  rfl

/-- Settles O32. -/
theorem decompressIsPure : Obligations.DecompressIsPure := by
  intro s s' t t' hcfg hbytes hexec hexec'
  obtain rfl := Host.Outcome.next.inj ((exec_of_not_due (i := .decompress) rfl).symm.trans hexec)
  obtain rfl := Host.Outcome.next.inj ((exec_of_not_due (i := .decompress) rfl).symm.trans hexec')
  refine ⟨?_, ?_⟩
  · simp only [State.complete_texel, commandRun, decompressTexels_congr Config.params hcfg hbytes, State.writeTexels_texel]
  · rw [exec_of_not_due (i := .decompress) rfl]
    simp only [commandRun]
    generalize hout : decompressTexels Config.params s = out
    have hagain : decompressTexels Config.params (s.writeTexels out).complete = out :=
      (decompressTexels_congr Config.params (congrArg normalise (State.writeTexels_cfg out s)) fun n _ =>
        blockByte_congr (State.writeTexels_block out s) n).trans hout
    rw [hagain, writeTexels_complete_writeTexels]

end Sys2Proof.Machine
end

section
/-! PROOFS. The alpha codecs (`46_alpha_codec.md`): the 4-bit quantiser and both decoders (R370 to R377, R392 to R395), the range
widening (R383) and the nearest code (R386). -/

namespace Sys2Proof.Machine

/-! ### FixRange (R383) -/

/-- FixRange by where the range lies: wide enough, room above, or no room above. -/
theorem fixRange_cases (lo hi steps : Nat) :
    (lo + steps ≤ hi ∧ fixRange lo hi steps = (lo, hi)) ∨
    (hi < lo + steps ∧ lo + steps ≤ 255 ∧ fixRange lo hi steps = (lo, lo + steps)) ∨
    (255 < lo + steps ∧ fixRange lo hi steps = (255 - steps, 255)) := by
  simp only [fixRange]
  obtain ⟨top, htop⟩ : ∃ top, top = if (hi : Int) - lo < steps then min (lo + steps) 255 else hi := ⟨_, rfl⟩
  rw [← htop]
  by_cases hwide : lo + steps ≤ hi
  · rw [if_neg (by omega)] at htop
    exact .inl ⟨hwide, by rw [if_neg (by omega), htop]⟩
  · rw [if_pos (by omega)] at htop
    by_cases hroom : lo + steps ≤ 255
    · rw [Nat.min_eq_left hroom] at htop
      exact .inr (.inl ⟨by omega, hroom, by rw [if_neg (by omega), htop]⟩)
    · rw [Nat.min_eq_right (by omega)] at htop
      exact .inr (.inr ⟨by omega, by rw [if_pos (by omega), htop]⟩)

/-- Settles O56. -/
theorem fixRangeSpan : Obligations.FixRangeSpan := by
  intro lo hi steps hle hhi hpos hsteps
  rcases fixRange_cases lo hi steps with ⟨h, heq⟩ | ⟨h, hroom, heq⟩ | ⟨h, heq⟩ <;> rw [heq] <;>
    simp only [Prod.mk.injEq, true_and, and_true, implies_true] <;> omega

/-! ### The nearest code (R386) -/

theorem sqDiff_le {x y : Nat} (hx : x ≤ 255) (hy : y ≤ 255) : sqDiff x y ≤ 65025 := by
  unfold sqDiff
  have hlow : -255 ≤ (x : Int) - y := by omega
  have hhigh : (x : Int) - y ≤ 255 := by omega
  have : ((x : Int) - y) * ((x : Int) - y) ≤ 65025 := by nlinarith
  omega

/-- What the loop of R386 holds after the codes of numbers below `n`: the initial bound if there are none, else the first least. -/
def NearestBelow (v : Nat) (codes : Vector Nat 8) (n : Nat) (best : Nat × Fin 8) : Prop :=
  (n = 0 ∧ best = (2 ^ 31 - 1, 0)) ∨
  (best.2.val < n ∧ best.1 = sqDiff v codes[best.2] ∧ (∀ j : Fin 8, j.val < n → best.1 ≤ sqDiff v codes[j]) ∧
    ∀ j : Fin 8, j < best.2 → best.1 < sqDiff v codes[j])

theorem NearestBelow.step {v : Nat} {codes : Vector Nat 8} {best : Nat × Fin 8} (j : Fin 8) (hj : sqDiff v codes[j] < 2 ^ 31 - 1)
    (h : NearestBelow v codes j.val best) :
    NearestBelow v codes (j.val + 1) (if sqDiff v codes[j] < best.1 then (sqDiff v codes[j], j) else best) := by
  have hcases (l : Fin 8) (hl : l.val < j.val + 1) : l.val < j.val ∨ l = j := by
    rcases Nat.lt_succ_iff_lt_or_eq.mp hl with hlt | heq
    · exact .inl hlt
    · exact .inr (Fin.ext heq)
  rcases h with ⟨hn, rfl⟩ | ⟨hidx, herr, hleast, hfirst⟩
  · rw [if_pos hj]
    refine .inr ⟨Nat.lt_succ_self _, rfl, fun l hl => ?_, fun l hl => absurd hl (by simp only [Fin.lt_def]; omega)⟩
    rcases hcases l hl with hlt | rfl
    · omega
    · exact Nat.le_refl _
  · split
    · next hlt =>
      refine .inr ⟨Nat.lt_succ_self _, rfl, fun l hl => ?_, fun l hl => hlt.trans_le (hleast l hl)⟩
      rcases hcases l hl with hl' | rfl
      · exact hlt.le.trans (hleast l hl')
      · exact Nat.le_refl _
    · next hge =>
      refine .inr ⟨Nat.lt_succ_of_lt hidx, herr, fun l hl => ?_, hfirst⟩
      rcases hcases l hl with hl' | rfl
      · exact hleast l hl'
      · exact Nat.le_of_not_lt hge

/-- The result of R386: the first code of least squared error. -/
theorem nearestCode_spec {v : Nat} {codes : Vector Nat 8} (h : ∀ j : Fin 8, sqDiff v codes[j] < 2 ^ 31 - 1) :
    (nearestCode v codes).1 = sqDiff v codes[(nearestCode v codes).2] ∧
    (∀ j : Fin 8, (nearestCode v codes).1 ≤ sqDiff v codes[j]) ∧
    ∀ j : Fin 8, j < (nearestCode v codes).2 → (nearestCode v codes).1 < sqDiff v codes[j] := by
  have h0 : NearestBelow v codes 0 (2 ^ 31 - 1, 0) := .inl ⟨rfl, rfl⟩
  have h8 := (((((((h0.step 0 (h 0)).step 1 (h 1)).step 2 (h 2)).step 3 (h 3)).step 4 (h 4)).step 5 (h 5)).step 6
    (h 6)).step 7 (h 7)
  have hfold : NearestBelow v codes 8 (nearestCode v codes) := by
    rw [nearestCode, show List.finRange 8 = [0, 1, 2, 3, 4, 5, 6, 7] from rfl]
    simp only [List.foldl_cons, List.foldl_nil]
    exact h8
  rcases hfold with ⟨h, -⟩ | ⟨-, herr, hleast, hfirst⟩
  · exact absurd h (by decide)
  · exact ⟨herr, fun j => hleast j j.isLt, hfirst⟩

/-- Settles O57. -/
theorem nearestAlphaCode : Obligations.NearestAlphaCode := by
  intro v codes hcodes
  refine nearestCode_spec fun j => ?_
  have := sqDiff_le (Nat.le_of_lt_succ v.isLt) (hcodes j)
  omega

/-! ### The 4-bit alphas (R370 to R372) -/

/-- R370 on all 256 alphas: `Quant4` is `A/17` rounded to the nearest. -/
theorem quant4_eq : ∀ a : Byte, quant4 a = (2 * a.toNat + 17) / 34 := by
  decide +kernel

theorem toNat_nibble_twice (n : BitVec 4) : (n ++ n).toNat = 17 * n.toNat := by
  rw [toNat_append_add]
  omega

/-- The nibble of slot `i` in eight bytes (R372). -/
def alphaNibbleOf (bytes : Vector Byte 8) (i : Fin 16) : BitVec 4 :=
  (bytes[i.val / 2]'(by omega)).extractLsb' (4 * (i.val % 2)) 4

theorem decodeAlpha3_getElem (bytes : Vector Byte 8) (i : Fin 16) :
    (decodeAlpha3 bytes)[i] = alphaNibbleOf bytes i ++ alphaNibbleOf bytes i := by
  simp only [decodeAlpha3, alphaNibbleOf, Fin.getElem_fin, Vector.getElem_ofFn]

/-- The two nibbles of a byte. -/
theorem alphaNibbleOf_toNat (bytes : Vector Byte 8) (j : Fin 8) {lo hi : Fin 16} (hlo : lo.val = 2 * j.val)
    (hhi : hi.val = 2 * j.val + 1) :
    (alphaNibbleOf bytes lo).toNat = bytes[j].toNat % 16 ∧ (alphaNibbleOf bytes hi).toNat = bytes[j].toNat / 16 := by
  have hj := bytes[j].isLt
  have h0 : lo.val / 2 = j.val := by omega
  have h1 : hi.val / 2 = j.val := by omega
  have h2 : lo.val % 2 = 0 := by omega
  have h3 : hi.val % 2 = 1 := by omega
  simp only [alphaNibbleOf, h0, h1, h2, h3, BitVec.extractLsb'_toNat, Nat.shiftRight_eq_div_pow, Fin.getElem_fin] at hj ⊢
  omega

/-- The decoder reads the nibbles the encoder wrote. -/
theorem alphaNibbleOf_encodeAlpha3 (T : Vector Word 16) (m : BitVec 16) (i : Fin 16) :
    alphaNibbleOf (encodeAlpha3 T m) i = alphaNibble T m i := by
  have hlow (x y : BitVec 4) : (x ++ y : Byte).extractLsb' 0 4 = y := by
    apply BitVec.eq_of_toNat_eq
    rw [BitVec.extractLsb'_toNat, toNat_append_add]
    have := y.isLt
    omega
  have hhigh (x y : BitVec 4) : (x ++ y : Byte).extractLsb' 4 4 = x := by
    apply BitVec.eq_of_toNat_eq
    rw [BitVec.extractLsb'_toNat, toNat_append_add, Nat.shiftRight_eq_div_pow]
    have := x.isLt; have := y.isLt
    omega
  unfold alphaNibbleOf encodeAlpha3
  rw [Vector.getElem_ofFn]
  rcases Nat.mod_two_eq_zero_or_one i.val with h | h
  · have hi : (⟨2 * (i.val / 2), by omega⟩ : Fin 16) = i := Fin.ext (by simp only; omega)
    rw [h, hi]
    exact hlow _ _
  · have hi : (⟨2 * (i.val / 2) + 1, by omega⟩ : Fin 16) = i := Fin.ext (by simp only; omega)
    rw [h, hi]
    exact hhigh _ _

/-- What a slot's alpha is after encoding and decoding (R377). -/
theorem decodeAlpha3_encodeAlpha3 (T : Vector Word 16) (m : BitVec 16) (i : Fin 16) :
    ((decodeAlpha3 (encodeAlpha3 T m))[i]).toNat =
      if slotValid m i then 17 * ((2 * (texelA T[i]).toNat + 17) / 34) else 0 := by
  rw [decodeAlpha3_getElem, alphaNibbleOf_encodeAlpha3, toNat_nibble_twice, alphaNibble]
  have hA := (texelA T[i]).isLt
  split
  · rw [BitVec.toNat_ofNat, quant4_eq]
    omega
  · rfl

/-- A decoded alpha block fills the A lanes of the texels (R376, R395). -/
theorem texelA_writeAlphas (s : State) (a : Vector Byte 16) (i : Fin 16) :
    texelA (s.writeAlphas a).complete.texel[i] = a[i] := by
  rw [State.complete_texel]
  exact (writeAlphas_rgb s a i).2.2.2

/-- Settles O52. -/
theorem alpha3RoundTrip : Obligations.Alpha3RoundTrip := by
  intro s
  refine ⟨_, _, exec_of_not_due rfl, rfl, fun n hn => blockByte_putAlpha3 s s.mask hn, exec_of_not_due rfl, fun i => ?_⟩
  have hblock : (commandRun .alpha3Enc s).complete.blockHalf false = encodeAlpha3 s.texel s.mask :=
    (blockHalf_congr (State.complete_block _) _).trans (blockHalf_writeBlockHalf_same ..)
  have hdecode := decodeAlpha3_encodeAlpha3 s.texel s.mask i
  have htexel : texelA (commandRun .alpha3Dec (commandRun .alpha3Enc s).complete).complete.texel[i] =
      (decodeAlpha3 (encodeAlpha3 s.texel s.mask))[i] := by
    rw [← hblock]
    exact texelA_writeAlphas ..
  rw [htexel]
  have hA := (texelA s.texel[i]).isLt
  refine ⟨fun hv => BitVec.eq_of_toNat_eq ?_, fun hv => ?_⟩
  · rw [hdecode, hv]
    rfl
  · rw [hv, if_pos rfl] at hdecode
    exact ⟨hdecode, by omega, by omega, fun h17 => BitVec.eq_of_toNat_eq (by omega)⟩

/-! ### The BC3 codebook (R394) -/

/-- The entries of the two codebooks (R384). -/
theorem codes5_getElem (a b : Nat) (i : Fin 8) : (codes5 a b)[i] =
    if i.val = 0 then a else if i.val = 1 then b else if i.val = 6 then 0 else if i.val = 7 then 255
    else ((6 - i.val) * a + (i.val - 1) * b) / 5 := by
  match i with
  | 0 | 1 | 2 | 3 | 4 | 5 | 6 | 7 => rfl

theorem codes7_getElem (a b : Nat) (i : Fin 8) : (codes7 a b)[i] =
    if i.val = 0 then a else if i.val = 1 then b else ((8 - i.val) * a + (i.val - 1) * b) / 7 := by
  match i with
  | 0 | 1 | 2 | 3 | 4 | 5 | 6 | 7 => rfl

theorem codes5_le {a b : Nat} (ha : a ≤ 255) (hb : b ≤ 255) (i : Fin 8) : (codes5 a b)[i] ≤ 255 := by
  match i with
  | 0 | 1 | 2 | 3 | 4 | 5 | 6 | 7 => simp [codes5]; try omega

theorem codes7_le {a b : Nat} (ha : a ≤ 255) (hb : b ≤ 255) (i : Fin 8) : (codes7 a b)[i] ≤ 255 := by
  match i with
  | 0 | 1 | 2 | 3 | 4 | 5 | 6 | 7 => simp [codes7]; try omega

theorem decodeAlphaCodebook_le (a0 a1 : Byte) (i : Fin 8) : (decodeAlphaCodebook a0 a1)[i] ≤ 255 := by
  unfold decodeAlphaCodebook
  split
  · exact codes5_le (Nat.le_of_lt_succ a0.isLt) (Nat.le_of_lt_succ a1.isLt) i
  · exact codes7_le (Nat.le_of_lt_succ a0.isLt) (Nat.le_of_lt_succ a1.isLt) i

theorem decodeAlpha5_toNat (bytes : Vector Byte 8) (i : Fin 16) :
    ((decodeAlpha5 bytes)[i]).toNat = (decodeAlphaCodebook bytes[0] bytes[1])[unpackAlphaIndex bytes i] := by
  have hle := decodeAlphaCodebook_le bytes[0] bytes[1] (unpackAlphaIndex bytes i)
  simp only [decodeAlpha5, Fin.getElem_fin, Vector.getElem_ofFn, BitVec.toNat_ofNat] at hle ⊢
  exact Nat.mod_eq_of_lt (Nat.lt_succ_of_le hle)

/-- The whole effect of an alpha decoder (R72). -/
theorem complete_writeAlphas_frame (s : State) (a : Vector Byte 16) : (s.writeAlphas a).complete =
    { s with texel := (s.writeAlphas a).complete.texel, done := true, busy := false } := by
  unfold State.writeAlphas
  generalize (Vector.ofFn fun i : Fin 16 => withAlpha (s.texel[i]) (a[i])) = T
  rfl

/-- The first bytes of the block buffer as its lower half (R32). -/
theorem blockHalf_false_getElem (s : State) (j : Fin 8) : (s.blockHalf false)[j] = s.blockByte ⟨j.val, by omega⟩ := by
  simp only [State.blockHalf, Fin.getElem_fin, Vector.getElem_ofFn, Bool.false_eq_true, if_false, Nat.zero_add]

/-- Settles O53. -/
theorem alphaDecoders : Obligations.AlphaDecoders := by
  rintro s a0 a1 h0 h1
  have hbyte := blockHalf_false_getElem s
  rw [← show (s.blockHalf false)[0] = s.blockByte 0 from hbyte 0] at h0
  rw [← show (s.blockHalf false)[1] = s.blockByte 1 from hbyte 1] at h1
  refine ⟨_, _, exec_of_not_due rfl, complete_writeAlphas_frame .., fun j lo hi hlo hhi => ?_, exec_of_not_due rfl,
    complete_writeAlphas_frame .., fun i x hx => ?_, fun i => ?_⟩
  · obtain ⟨hlow, hhigh⟩ := alphaNibbleOf_toNat (s.blockHalf false) j hlo hhi
    simp only [commandRun, texelA_writeAlphas, decodeAlpha3_getElem, toNat_nibble_twice, ← hbyte, hlow, hhigh, and_self]
  · simp only [commandRun, texelA_writeAlphas, decodeAlpha5_toNat, decodeAlphaCodebook, ← h0, ← h1]
    by_cases hle : a0 ≤ a1
    · simp only [if_pos hle, codes5_getElem, hx]
    · simp only [if_neg hle, codes7_getElem, hx]
  · obtain ⟨hr3, hg3, hb3, -⟩ := writeAlphas_rgb s (decodeAlpha3 (s.blockHalf false)) i
    obtain ⟨hr5, hg5, hb5, -⟩ := writeAlphas_rgb s (decodeAlpha5 (s.blockHalf false)) i
    exact ⟨hr3, hg3, hb3, hr5, hg5, hb5⟩

end Sys2Proof.Machine
end

section
/-! PROOFS. The BC3 alpha encoder (`46_alpha_codec.md` R380 to R391, R396): its ranges as least and greatest alphas, its errors as
sums over the valid alphas, its block against the decoder, and the two readings of the empty 5-range (R382). -/

namespace Sys2Proof.Machine

/-! ### Ranges (R380) -/

theorem mem_slots (i : Fin 16) : i ∈ slots := by
  revert i
  decide

theorem mem_validAlphas {m : BitVec 16} {T : Vector Word 16} {v : Nat} :
    v ∈ validAlphas m T ↔ ∃ i : Fin 16, slotValid m i = true ∧ (texelA T[i]).toNat = v := by
  simp [validAlphas, mem_slots]

theorem validAlphas_le {m : BitVec 16} {T : Vector Word 16} {v : Nat} (h : v ∈ validAlphas m T) : v ≤ 255 := by
  obtain ⟨i, -, rfl⟩ := mem_validAlphas.mp h
  exact Nat.le_of_lt_succ (texelA T[i]).isLt

/-- The scan runs over the valid alphas (R380). -/
theorem alphaRanges_eq (T : Vector Word 16) (m : BitVec 16) :
    alphaRanges T m = (validAlphas m T).foldl AlphaRanges.scan ⟨255, 0, 255, 0⟩ := by
  rw [alphaRanges, validAlphas, List.foldl_map, List.foldl_filter]

/-- What the scan holds after the alphas `A`: the bounds of each range, and where they come from. -/
structure RangesOf (A : List Nat) (r : AlphaRanges) : Prop where
  min7_le : ∀ v ∈ A, r.min7 ≤ v
  min7_mem : r.min7 = 255 ∨ r.min7 ∈ A
  le_max7 : ∀ v ∈ A, v ≤ r.max7
  max7_mem : r.max7 = 0 ∨ r.max7 ∈ A
  min5_le : ∀ v ∈ A, v ≠ 0 → r.min5 ≤ v
  min5_mem : r.min5 = 255 ∨ (r.min5 ∈ A ∧ r.min5 ≠ 0)
  le_max5 : ∀ v ∈ A, v ≠ 255 → v ≤ r.max5
  max5_mem : r.max5 = 0 ∨ (r.max5 ∈ A ∧ r.max5 ≠ 255)

theorem RangesOf.nil : RangesOf [] ⟨255, 0, 255, 0⟩ := by
  constructor <;> simp

theorem RangesOf.scan {A : List Nat} {r : AlphaRanges} (h : RangesOf A r) (v : Nat) : RangesOf (A ++ [v]) (r.scan v) := by
  have hmem : v ∈ A ++ [v] := by simp
  have hkeep {w : Nat} (hw : w ∈ A) : w ∈ A ++ [v] := List.mem_append_left _ hw
  have hcases {w : Nat} (hw : w ∈ A ++ [v]) : w ∈ A ∨ w = v := by simpa using hw
  unfold AlphaRanges.scan
  refine ⟨fun w hw => ?_, ?_, fun w hw => ?_, ?_, fun w hw h0 => ?_, ?_, fun w hw h255 => ?_, ?_⟩
  · have := h.min7_le w
    rcases hcases hw with hw | rfl
    · dsimp only; split <;> [(have := this hw; omega); exact this hw]
    · dsimp only; split <;> omega
  · dsimp only; split
    · exact .inr hmem
    · exact h.min7_mem.imp_right hkeep
  · have := h.le_max7 w
    rcases hcases hw with hw | rfl
    · dsimp only; split <;> [(have := this hw; omega); exact this hw]
    · dsimp only; split <;> omega
  · dsimp only; split
    · exact .inr hmem
    · exact h.max7_mem.imp_right hkeep
  · have := h.min5_le w
    rcases hcases hw with hw | rfl
    · dsimp only; split <;> [(have := this hw h0; omega); exact this hw h0]
    · dsimp only; split <;> omega
  · dsimp only; split
    · next hlt => exact .inr ⟨hmem, hlt.1⟩
    · exact h.min5_mem.imp_right fun ⟨hA, h0⟩ => ⟨hkeep hA, h0⟩
  · have := h.le_max5 w
    rcases hcases hw with hw | rfl
    · dsimp only; split <;> [(have := this hw h255; omega); exact this hw h255]
    · dsimp only; split <;> omega
  · dsimp only; split
    · next hlt => exact .inr ⟨hmem, hlt.1⟩
    · exact h.max5_mem.imp_right fun ⟨hA, h255⟩ => ⟨hkeep hA, h255⟩

theorem alphaRanges_spec (T : Vector Word 16) (m : BitVec 16) : RangesOf (validAlphas m T) (alphaRanges T m) := by
  have key (A B : List Nat) (r : AlphaRanges) (h : RangesOf A r) : RangesOf (A ++ B) (B.foldl AlphaRanges.scan r) := by
    induction B generalizing A r with
    | nil => simpa using h
    | cons v B ih => simpa using ih _ _ (h.scan v)
  rw [alphaRanges_eq]
  exact key [] _ _ RangesOf.nil

namespace RangesOf

variable {A : List Nat} {r : AlphaRanges}

/-- Over the alphas of a tile, the 7-range is the least and the greatest. -/
theorem range7 (h : RangesOf A r) (hA : ∀ v ∈ A, v ≤ 255) {lo hi : Nat} (hlo : LeastIn lo A) (hhi : GreatestIn hi A) :
    r.min7 = lo ∧ r.max7 = hi := by
  obtain ⟨hloMem, hloLe⟩ := hlo
  obtain ⟨hhiMem, hhiLe⟩ := hhi
  have h1 := h.min7_le lo hloMem
  have h2 := h.le_max7 hi hhiMem
  have h3 := hA lo hloMem
  constructor
  · rcases h.min7_mem with h0 | hmem
    · omega
    · exact Nat.le_antisymm h1 (hloLe _ hmem)
  · rcases h.max7_mem with h0 | hmem
    · omega
    · exact Nat.le_antisymm (hhiLe _ hmem) h2

/-- The 5-range is the least alpha that is not 0 and the greatest that is not 255. -/
theorem range5 (h : RangesOf A r) (hA : ∀ v ∈ A, v ≤ 255) {lo hi : Nat} (hlo : LeastIn lo (A.filter (· ≠ 0)))
    (hhi : GreatestIn hi (A.filter (· ≠ 255))) : r.min5 = lo ∧ r.max5 = hi := by
  simp only [LeastIn, GreatestIn, List.mem_filter, decide_eq_true_eq, ne_eq, and_imp] at hlo hhi
  obtain ⟨⟨hloMem, hlo0⟩, hloLe⟩ := hlo
  obtain ⟨⟨hhiMem, hhi255⟩, hhiLe⟩ := hhi
  have h1 := h.min5_le lo hloMem hlo0
  have h2 := h.le_max5 hi hhiMem hhi255
  have h3 := hA lo hloMem
  constructor
  · rcases h.min5_mem with h0 | ⟨hmem, hne⟩
    · omega
    · exact Nat.le_antisymm h1 (hloLe _ hmem hne)
  · rcases h.max5_mem with h0 | ⟨hmem, hne⟩
    · omega
    · exact Nat.le_antisymm (hhiLe _ hmem hne) h2

/-- Where every alpha is 0 or 255 the scan leaves the 5-range empty. -/
theorem range5_empty (h : RangesOf A r) (hA : ∀ v ∈ A, v = 0 ∨ v = 255) : r.min5 = 255 ∧ r.max5 = 0 := by
  constructor
  · rcases h.min5_mem with h0 | ⟨hmem, hne⟩
    · exact h0
    · exact (hA _ hmem).resolve_left hne
  · rcases h.max5_mem with h0 | ⟨hmem, hne⟩
    · exact h0
    · exact (hA _ hmem).resolve_right hne

/-- Where some alpha is neither 0 nor 255 the 5-range holds it. -/
theorem range5_nonempty (h : RangesOf A r) {v : Nat} (hv : v ∈ A) (h0 : v ≠ 0) (h255 : v ≠ 255) : r.min5 ≤ r.max5 :=
  (h.min5_le v hv h0).trans (h.le_max5 v hv h255)

theorem range7_nonempty (h : RangesOf A r) {v : Nat} (hv : v ∈ A) : r.min7 ≤ r.max7 :=
  (h.min7_le v hv).trans (h.le_max7 v hv)

theorem max_le (h : RangesOf A r) (hA : ∀ v ∈ A, v ≤ 255) : r.max5 ≤ 255 ∧ r.max7 ≤ 255 := by
  constructor
  · rcases h.max5_mem with h0 | ⟨hmem, -⟩
    · omega
    · exact hA _ hmem
  · rcases h.max7_mem with h0 | hmem
    · omega
    · exact hA _ hmem

end RangesOf

/-! ### The empty-range defaults (R381) and the ranges of the codebooks (R383) -/

/-- A 7-range that is not empty is kept, and so is such a 5-range. -/
theorem fillEmpty_of_nonempty {r : AlphaRanges} (h7 : r.min7 ≤ r.max7) (h5 : r.min5 ≤ r.max5) (e : AlphaEmpty5) :
    r.fillEmpty e = r := by
  simp only [AlphaRanges.fillEmpty, if_neg (Nat.not_lt.mpr h7), if_neg (Nat.not_lt.mpr h5)]

/-- An empty 5-range takes the 7-range, or collapses. -/
theorem fillEmpty_of_empty5 {r : AlphaRanges} (h7 : r.min7 ≤ r.max7) (h5 : r.max5 < r.min5) :
    r.fillEmpty .otherRange = { r with min5 := r.min7, max5 := r.max7 } ∧
    r.fillEmpty .collapse = { r with min5 := r.max5 } := by
  simp only [AlphaRanges.fillEmpty, if_neg (Nat.not_lt.mpr h7), if_pos h5, and_self]

theorem fillEmpty_le {r : AlphaRanges} (h5 : r.max5 ≤ 255) (h7 : r.max7 ≤ 255) (e : AlphaEmpty5) :
    (r.fillEmpty e).min5 ≤ (r.fillEmpty e).max5 ∧ (r.fillEmpty e).max5 ≤ 255 ∧
    (r.fillEmpty e).min7 ≤ (r.fillEmpty e).max7 ∧ (r.fillEmpty e).max7 ≤ 255 := by
  obtain ⟨q, hq⟩ : ∃ q, q = if r.max7 < r.min7 then { r with min7 := r.max7 } else r := ⟨_, rfl⟩
  have hq7 : q.min7 ≤ q.max7 ∧ q.max7 ≤ 255 ∧ q.max5 ≤ 255 := by
    subst hq
    split
    · exact ⟨Nat.le_refl _, h7, h5⟩
    · exact ⟨by omega, h7, h5⟩
  simp only [AlphaRanges.fillEmpty, ← hq]
  split
  · cases e <;> dsimp only <;> omega
  · omega

/-- The codebooks are built over ranges inside 0 to 255 whose ends differ. -/
theorem encoderRanges_lt (p : Params) (T : Vector Word 16) (m : BitVec 16) :
    (encoderRanges p T m).min5 < (encoderRanges p T m).max5 ∧ (encoderRanges p T m).max5 ≤ 255 ∧
    (encoderRanges p T m).min7 < (encoderRanges p T m).max7 ∧ (encoderRanges p T m).max7 ≤ 255 := by
  obtain ⟨hmax5, hmax7⟩ := (alphaRanges_spec T m).max_le fun v => validAlphas_le
  obtain ⟨h5, h5', h7, h7'⟩ := fillEmpty_le hmax5 hmax7 p.alphaEmpty5
  obtain ⟨hlt5, hle5, -⟩ := fixRangeSpan _ _ 5 h5 h5' (by decide) (by decide)
  obtain ⟨hlt7, hle7, -⟩ := fixRangeSpan _ _ 7 h7 h7' (by decide) (by decide)
  exact ⟨hlt5, hle5, hlt7, hle7⟩

/-! ### The errors (R386) -/

/-- A sum over the slots that counts the valid ones only, as a sum over the valid slots. -/
theorem sum_valid_eq (l : List (Fin 16)) (valid : Fin 16 → Bool) (f : Fin 16 → Nat) :
    (l.map fun i => if valid i then f i else 0).sum = ((l.filter valid).map f).sum := by
  induction l with
  | nil => rfl
  | cons i l ih =>
    rw [List.map_cons, List.sum_cons, ih, List.filter_cons]
    cases valid i <;> simp

theorem fitCodes_error (T : Vector Word 16) (m : BitVec 16) (codes : Vector Nat 8) :
    (fitCodes T m codes).1 = ((validAlphas m T).map fun v => (nearestCode v codes).1).sum := by
  have hsum (l : List (Fin 16)) (e : Nat) : l.foldl (fun err i => err + alphaError T m codes i) e =
      e + (l.map fun i => alphaError T m codes i).sum := by
    induction l generalizing e with
    | nil => rfl
    | cons i l ih => rw [List.foldl_cons, ih, List.map_cons, List.sum_cons, Nat.add_assoc]
  rw [fitCodes, validAlphas, List.map_map]
  exact (hsum slots 0).trans ((Nat.zero_add _).trans (sum_valid_eq slots (slotValid m) _))

theorem fitCodes_index (T : Vector Word 16) (m : BitVec 16) (codes : Vector Nat 8) {i : Fin 16} (hi : slotValid m i = true) :
    (fitCodes T m codes).2[i] = (nearestCode (texelA T[i]).toNat codes).2 := by
  simp only [fitCodes, Fin.getElem_fin, Vector.getElem_ofFn]
  exact if_pos hi

theorem sqDiff_of_eq {v : Nat} {codes : Vector Nat 8} {best : Nat × Fin 8} (herr : best.1 = sqDiff v codes[best.2])
    {x : Fin 8} (hx : x = best.2) : sqDiff v codes[x] = best.1 := by
  subst hx
  exact herr.symm

theorem nearestCode_le {v : Nat} (hv : v ≤ 255) {codes : Vector Nat 8} (hcodes : ∀ j : Fin 8, codes[j] ≤ 255) :
    (nearestCode v codes).1 ≤ 65025 ∧ ∀ x : Fin 8, x = (nearestCode v codes).2 → sqDiff v codes[x] = (nearestCode v codes).1 := by
  have hle (j : Fin 8) := sqDiff_le hv (hcodes j)
  obtain ⟨herr, -, -⟩ := nearestCode_spec fun j => Nat.lt_of_le_of_lt (hle j) (by decide)
  exact ⟨herr ▸ hle _, fun x hx => sqDiff_of_eq herr hx⟩

/-- The entry `FitCodes` chooses for a valid slot is at the error it counts. -/
theorem sqDiff_fitCodes (T : Vector Word 16) (m : BitVec 16) {codes : Vector Nat 8} (hcodes : ∀ j : Fin 8, codes[j] ≤ 255)
    {i : Fin 16} (hi : slotValid m i = true) :
    sqDiff (texelA T[i]).toNat codes[(fitCodes T m codes).2[i]] = (nearestCode (texelA T[i]).toNat codes).1 :=
  (nearestCode_le (Nat.le_of_lt_succ (texelA T[i]).isLt) hcodes).2 _ (fitCodes_index T m codes hi)

theorem length_validAlphas_le (m : BitVec 16) (T : Vector Word 16) : (validAlphas m T).length ≤ 16 := by
  rw [validAlphas, List.length_map]
  exact (List.length_filter_le _ _).trans_eq (by simp [slots])

theorem fitCodes_error_le (T : Vector Word 16) (m : BitVec 16) {codes : Vector Nat 8} (hcodes : ∀ j : Fin 8, codes[j] ≤ 255) :
    (fitCodes T m codes).1 ≤ 1040400 := by
  rw [fitCodes_error]
  refine (List.sum_le_card_nsmul _ 65025 fun e he => ?_).trans ?_
  · obtain ⟨v, hv, rfl⟩ := List.mem_map.mp he
    exact (nearestCode_le (validAlphas_le hv) hcodes).1
  · have := length_validAlphas_le m T
    rw [List.length_map, smul_eq_mul]
    omega

/-! ### The block against the decoder (R385, R387 to R389, R392, R394) -/

/-- R389: exchanging the ends of the 7-step codebook and every index keeps the alpha. -/
theorem codes7_swap (a b : Nat) (i : Fin 8) : (codes7 b a)[swapAlpha7 i] = (codes7 a b)[i] := by
  match i with
  | 0 | 1 | 2 | 3 | 4 | 5 | 6 | 7 => simp [codes7, swapAlpha7, Nat.add_comm]

theorem writeAlphaBlock_ends {a0 a1 : Nat} (h0 : a0 ≤ 255) (h1 : a1 ≤ 255) (idx : Vector (Fin 8) 16) :
    ((writeAlphaBlock a0 a1 idx)[0]).toNat = a0 ∧ ((writeAlphaBlock a0 a1 idx)[1]).toNat = a1 := by
  refine ⟨?_, ?_⟩ <;> simp only [writeAlphaBlock, Vector.getElem_mk, List.getElem_toArray, List.getElem_cons_zero,
    List.getElem_cons_succ, BitVec.toNat_ofNat] <;> omega

theorem entry_congr {codes : Vector Nat 8} {x y : Fin 8} : x = y → codes[x] = codes[y] := by
  rintro rfl
  rfl

/-- What a packed block decodes to, by the order of its ends (R394). -/
theorem decodeAlpha5_writeAlphaBlock {a0 a1 : Nat} (h0 : a0 ≤ 255) (h1 : a1 ≤ 255) (idx : Vector (Fin 8) 16) (i : Fin 16) :
    ((decodeAlpha5 (writeAlphaBlock a0 a1 idx))[i]).toNat =
      if a0 ≤ a1 then (codes5 a0 a1)[idx[i]] else (codes7 a0 a1)[idx[i]] := by
  obtain ⟨hend0, hend1⟩ := writeAlphaBlock_ends h0 h1 idx
  rw [decodeAlpha5_toNat, entry_congr (unpackAlphaIndex_writeAlphaBlock a0 a1 idx i), decodeAlphaCodebook, hend0, hend1]
  split <;> rfl

/-- The block of the 5-step scheme: its ends and what it decodes to. -/
theorem writeAlphaBlock5_spec {a0 a1 : Nat} (hlt : a0 < a1) (h1 : a1 ≤ 255) (idx : Vector (Fin 8) 16) :
    ((writeAlphaBlock5 a0 a1 idx)[0]).toNat = a0 ∧ ((writeAlphaBlock5 a0 a1 idx)[1]).toNat = a1 ∧
    ∀ i : Fin 16, ((decodeAlpha5 (writeAlphaBlock5 a0 a1 idx))[i]).toNat = (codes5 a0 a1)[idx[i]] := by
  rw [writeAlphaBlock5, if_neg (by omega)]
  obtain ⟨hend0, hend1⟩ := writeAlphaBlock_ends (by omega : a0 ≤ 255) h1 idx
  refine ⟨hend0, hend1, fun i => ?_⟩
  rw [decodeAlpha5_writeAlphaBlock (by omega) h1, if_pos hlt.le]

/-- The block of the 7-step scheme: its ends are exchanged. -/
theorem writeAlphaBlock7_spec {a0 a1 : Nat} (hlt : a0 < a1) (h1 : a1 ≤ 255) (idx : Vector (Fin 8) 16) :
    ((writeAlphaBlock7 a0 a1 idx)[0]).toNat = a1 ∧ ((writeAlphaBlock7 a0 a1 idx)[1]).toNat = a0 ∧
    ∀ i : Fin 16, ((decodeAlpha5 (writeAlphaBlock7 a0 a1 idx))[i]).toNat = (codes7 a0 a1)[idx[i]] := by
  rw [writeAlphaBlock7, if_pos hlt]
  obtain ⟨hend0, hend1⟩ := writeAlphaBlock_ends h1 (by omega : a0 ≤ 255) (Vector.ofFn fun i => swapAlpha7 (idx[i]))
  refine ⟨hend0, hend1, fun i => ?_⟩
  have hidx : (Vector.ofFn fun i => swapAlpha7 (idx[i]))[i] = swapAlpha7 idx[i] := by
    simp only [Fin.getElem_fin, Vector.getElem_ofFn]
  rw [decodeAlpha5_writeAlphaBlock h1 (by omega), if_neg (by omega), entry_congr hidx, codes7_swap]

/-- What the encoder leaves, in the scheme of the lower error, on equal error the 5-step one (R387, R391). -/
theorem encodeAlpha5_spec (p : Params) (T : Vector Word 16) (m : BitVec 16) (r : AlphaRanges) (hr : r = encoderRanges p T m)
    (out : Alpha5Result) (hout : out = encodeAlpha5 p T m) :
    out.e5 = (fitCodes T m (codes5 r.min5 r.max5)).1 ∧ out.e7 = (fitCodes T m (codes7 r.min7 r.max7)).1 ∧
    (out.e5 ≤ out.e7 → (out.bytes[0]).toNat = r.min5 ∧ (out.bytes[1]).toNat = r.max5 ∧
      ∀ i : Fin 16, ((decodeAlpha5 out.bytes)[i]).toNat =
        (codes5 r.min5 r.max5)[(fitCodes T m (codes5 r.min5 r.max5)).2[i]]) ∧
    (out.e7 < out.e5 → (out.bytes[0]).toNat = r.max7 ∧ (out.bytes[1]).toNat = r.min7 ∧
      ∀ i : Fin 16, ((decodeAlpha5 out.bytes)[i]).toNat =
        (codes7 r.min7 r.max7)[(fitCodes T m (codes7 r.min7 r.max7)).2[i]]) := by
  obtain ⟨h5, h5', h7, h7'⟩ := encoderRanges_lt p T m
  rw [← hr] at h5 h5' h7 h7'
  have hbytes : out.bytes = if out.e5 ≤ out.e7 then writeAlphaBlock5 r.min5 r.max5 (fitCodes T m (codes5 r.min5 r.max5)).2
      else writeAlphaBlock7 r.min7 r.max7 (fitCodes T m (codes7 r.min7 r.max7)).2 := by rw [hout, hr, encodeAlpha5]
  refine ⟨by rw [hout, hr, encodeAlpha5], by rw [hout, hr, encodeAlpha5], fun hle => ?_, fun hlt => ?_⟩
  · rw [if_pos hle] at hbytes
    rw [hbytes]
    exact writeAlphaBlock5_spec h5 h5' _
  · rw [if_neg (by omega)] at hbytes
    rw [hbytes]
    exact writeAlphaBlock7_spec h7 h7' _

/-- The squared alpha error of a decoded slot is the error the encoder counted for it, in the scheme it chose. -/
theorem sqDiff_decodeAlpha5 (p : Params) (T : Vector Word 16) (m : BitVec 16) (r : AlphaRanges) (hr : r = encoderRanges p T m)
    (out : Alpha5Result) (hout : out = encodeAlpha5 p T m) (i : Fin 16) (hi : slotValid m i = true) :
    sqDiff (texelA T[i]).toNat ((decodeAlpha5 out.bytes)[i]).toNat =
      (nearestCode (texelA T[i]).toNat (if out.e5 ≤ out.e7 then codes5 r.min5 r.max5 else codes7 r.min7 r.max7)).1 := by
  obtain ⟨h5, h5', h7, h7'⟩ := encoderRanges_lt p T m
  rw [← hr] at h5 h5' h7 h7'
  have hA : (texelA T[i]).toNat ≤ 255 := Nat.le_of_lt_succ (texelA T[i]).isLt
  have hmin5 : r.min5 ≤ 255 := by omega
  have hmin7 : r.min7 ≤ 255 := by omega
  obtain ⟨-, -, hchoose5, hchoose7⟩ := encodeAlpha5_spec p T m r hr out hout
  by_cases hle : out.e5 ≤ out.e7
  · rw [if_pos hle, (hchoose5 hle).2.2 i]
    exact sqDiff_fitCodes T m (codes5_le hmin5 h5') hi
  · rw [if_neg hle, (hchoose7 (by omega)).2.2 i]
    exact sqDiff_fitCodes T m (codes7_le hmin7 h7') hi

/-- The decoded error over the valid slots is the lower of the encoder's two errors (R396). -/
theorem alphaTileError_decodeAlpha5 (p : Params) (T U : Vector Word 16) (m : BitVec 16) (out : Alpha5Result)
    (hout : out = encodeAlpha5 p T m) (hU : ∀ i : Fin 16, texelA U[i] = (decodeAlpha5 out.bytes)[i]) :
    alphaTileError m T U = min out.e5 out.e7 := by
  obtain ⟨r, hr⟩ : ∃ r, r = encoderRanges p T m := ⟨_, rfl⟩
  obtain ⟨he5, he7, -, -⟩ := encodeAlpha5_spec p T m r hr out hout
  have hslot := sqDiff_decodeAlpha5 p T m r hr out hout
  generalize hcodes : (if out.e5 ≤ out.e7 then codes5 r.min5 r.max5 else codes7 r.min7 r.max7) = codes at hslot
  have hsum : alphaTileError m T U = (fitCodes T m codes).1 := by
    rw [fitCodes_error, validAlphas, List.map_map, alphaTileError, sum_valid_eq]
    refine congrArg List.sum (List.map_congr_left fun i hi => ?_)
    rw [hU, Function.comp_apply]
    exact hslot i (List.mem_filter.mp hi).2
  rw [hsum, ← hcodes]
  by_cases hle : out.e5 ≤ out.e7
  · rw [if_pos hle, ← he5, Nat.min_eq_left hle]
  · rw [if_neg hle, ← he7, Nat.min_eq_right (by omega)]

/-! ### The ranges as least and greatest alphas (R380, R381) -/

/-- The ranges the encoder's codebooks are built from, where some slot is valid, under OTHER_RANGE. -/
theorem encoderRanges_eq {p : Params} (hp : p.alphaEmpty5 = .otherRange) {T : Vector Word 16} {m : BitVec 16}
    {A : List Nat} (hA : A = validAlphas m T) {lo5 hi5 lo7 hi7 : Nat} (hlo7 : LeastIn lo7 A) (hhi7 : GreatestIn hi7 A)
    (h5 : (∃ v ∈ A, v ≠ 0 ∧ v ≠ 255) → LeastIn lo5 (A.filter (· ≠ 0)) ∧ GreatestIn hi5 (A.filter (· ≠ 255)))
    (hempty : (∀ v ∈ A, v = 0 ∨ v = 255) → lo5 = lo7 ∧ hi5 = hi7) :
    encoderRanges p T m = AlphaRanges.fix ⟨lo5, hi5, lo7, hi7⟩ := by
  have hspec := alphaRanges_spec T m
  have hle : ∀ v ∈ A, v ≤ 255 := fun v hv => validAlphas_le (hA ▸ hv)
  rw [← hA] at hspec
  rw [encoderRanges, hp]
  congr 1
  generalize alphaRanges T m = r at hspec
  obtain ⟨rfl, rfl⟩ := hspec.range7 hle hlo7 hhi7
  have hrange7 := hspec.range7_nonempty hlo7.1
  by_cases hsome : ∃ v ∈ A, v ≠ 0 ∧ v ≠ 255
  · obtain ⟨hlo5, hhi5⟩ := h5 hsome
    obtain ⟨rfl, rfl⟩ := hspec.range5 hle hlo5 hhi5
    obtain ⟨v, hv, h0, h255⟩ := hsome
    rw [fillEmpty_of_nonempty hrange7 (hspec.range5_nonempty hv h0 h255)]
  · have hall : ∀ v ∈ A, v = 0 ∨ v = 255 := fun v hv => by
      by_contra hv'
      exact hsome ⟨v, hv, not_or.mp hv'⟩
    obtain ⟨rfl, rfl⟩ := hempty hall
    obtain ⟨hmin5, hmax5⟩ := hspec.range5_empty hall
    rw [(fillEmpty_of_empty5 hrange7 (by omega)).1]

/-- Where no slot is valid both readings of R381 start from the empty ranges at 0. -/
theorem encoderRanges_of_nil (p : Params) {T : Vector Word 16} {m : BitVec 16} (h : validAlphas m T = []) :
    encoderRanges p T m = ⟨0, 5, 0, 7⟩ := by
  rw [encoderRanges, alphaRanges_eq, h]
  cases p.alphaEmpty5 <;> rfl

/-- With no valid slot the encoder writes the empty block, and both errors are 0. -/
theorem encodeAlpha5_of_nil (p : Params) {T : Vector Word 16} {m : BitVec 16} (h : validAlphas m T = []) :
    (encodeAlpha5 p T m).e5 = 0 ∧ (encodeAlpha5 p T m).e7 = 0 ∧ (encodeAlpha5 p T m).bytes =
      #v[0x00#8, 0x05#8, 0x00#8, 0x00#8, 0x00#8, 0x00#8, 0x00#8, 0x00#8] := by
  have hinvalid (i : Fin 16) : slotValid m i = false := by
    by_contra hi
    have : (texelA T[i]).toNat ∈ validAlphas m T := mem_validAlphas.mpr ⟨i, by simpa using hi, rfl⟩
    rw [h] at this
    exact List.not_mem_nil this
  have hindex (codes : Vector Nat 8) : (fitCodes T m codes).2 = Vector.replicate 16 0 := by
    apply Vector.ext
    intro i hi
    simp only [fitCodes, Vector.getElem_ofFn, Vector.getElem_replicate]
    exact if_neg (by simp [hinvalid])
  have herror (codes : Vector Nat 8) : (fitCodes T m codes).1 = 0 := by
    rw [fitCodes_error, h]
    rfl
  simp only [encodeAlpha5, encoderRanges_of_nil p h, hindex, herror, true_and]
  decide

/-! ### ALPHA5_ENC (R390, R391, R396) -/

/-- Settles O54. The encoder's result is put into the registers, whose bytes and errors are then those of `encodeAlpha5_spec`. -/
theorem alpha5RoundTrip : Obligations.Alpha5RoundTrip := by
  refine ⟨fun a b i => ⟨?codes5, ?codes7⟩, fun s => ?_⟩
  case codes5 =>
    match i with
    | 0 | 1 | 2 | 3 | 4 | 5 | 6 | 7 => rfl
  case codes7 =>
    match i with
    | 0 | 1 | 2 | 3 | 4 | 5 | 6 | 7 => rfl
  obtain ⟨r, hr⟩ : ∃ r, r = encoderRanges Config.params s.texel s.mask := ⟨_, rfl⟩
  obtain ⟨out, hout⟩ : ∃ out, out = encodeAlpha5 Config.params s.texel s.mask := ⟨_, rfl⟩
  obtain ⟨t, ht⟩ : ∃ t, t = (commandRun .alpha5Enc s).complete := ⟨_, rfl⟩
  obtain ⟨h5, h5', h7, h7'⟩ := encoderRanges_lt Config.params s.texel s.mask
  rw [← hr] at h5 h5' h7 h7'
  obtain ⟨he5, he7, hchoose5, hchoose7⟩ := encodeAlpha5_spec Config.params s.texel s.mask r hr out hout
  have hle5 : out.e5 ≤ 1040400 := he5 ▸ fitCodes_error_le _ _ (codes5_le (by omega) h5')
  have hle7 : out.e7 ≤ 1040400 := he7 ▸ fitCodes_error_le _ _ (codes7_le (by omega) h7')
  have haerr5 : t.aerr5.toNat = out.e5 := by
    rw [ht, hout, State.complete_aerr5, commandRun, State.putAlpha5_aerr5, BitVec.toNat_ofNat, ← hout]
    omega
  have haerr7 : t.aerr7.toNat = out.e7 := by
    rw [ht, hout, State.complete_aerr7, commandRun, State.putAlpha5_aerr7, BitVec.toNat_ofNat, ← hout]
    omega
  have hhalf : t.blockHalf false = out.bytes := by
    rw [ht, hout]
    exact (blockHalf_congr (State.complete_block _) _).trans
      ((blockHalf_congr (State.putAlpha5_block ..) _).trans (blockHalf_writeBlockHalf_same ..))
  have hbyte0 : t.blockByte 0 = out.bytes[0] := by rw [← hhalf]; exact (blockHalf_false_getElem t 0).symm
  have hbyte1 : t.blockByte 1 = out.bytes[1] := by rw [← hhalf]; exact (blockHalf_false_getElem t 1).symm
  have hexec : exec .alpha5Enc s = .next t := ht ▸ exec_of_not_due rfl
  refine ⟨t, _, hexec, ?frame, fun n hn => ?upper, ?ranges, fun hnil => ?empty, fun hle => ?less5, fun hlt => ?less7,
    haerr5 ▸ hle5, haerr7 ▸ hle7, exec_of_not_due rfl, ?decoded⟩
  case frame =>
    rw [ht]
    rfl
  case upper => exact ht ▸ blockByte_putAlpha5 _ s s.mask hn
  case ranges =>
    rintro A lo5 hi5 lo7 hi7 f5 f7 hA hlo7 hhi7 hr5 hempty rfl rfl
    have hfix : r = AlphaRanges.fix ⟨lo5, hi5, lo7, hi7⟩ := hr.trans (encoderRanges_eq rfl hA hlo7 hhi7 hr5 hempty)
    rw [haerr5, haerr7, hbyte0, hbyte1, he5, he7, ← he5, ← he7]
    refine ⟨?_, ?_, fun hle => ?_, fun hlt => ?_⟩
    · rw [he5, fitCodes_error, ← hA, hfix]
      rfl
    · rw [he7, fitCodes_error, ← hA, hfix]
      rfl
    · obtain ⟨h0, h1, -⟩ := hchoose5 hle
      rw [h0, h1, hfix]
      exact ⟨rfl, rfl⟩
    · obtain ⟨h0, h1, -⟩ := hchoose7 hlt
      rw [h0, h1, hfix]
      exact ⟨rfl, rfl⟩
  case empty =>
    obtain ⟨h0, h0', hbytes⟩ := encodeAlpha5_of_nil Config.params hnil
    rw [← hout] at h0 h0' hbytes
    exact ⟨BitVec.eq_of_toNat_eq (haerr5.trans h0), BitVec.eq_of_toNat_eq (haerr7.trans h0'), hhalf.trans hbytes⟩
  case less5 =>
    obtain ⟨h0, h1, -⟩ := hchoose5 (haerr5 ▸ haerr7 ▸ hle)
    rw [hbyte0, hbyte1, h0, h1]
    exact h5
  case less7 =>
    obtain ⟨h0, h1, -⟩ := hchoose7 (haerr5 ▸ haerr7 ▸ hlt)
    rw [hbyte0, hbyte1, h0, h1]
    exact h7
  case decoded =>
    rw [haerr5, haerr7]
    refine alphaTileError_decodeAlpha5 Config.params s.texel _ s.mask out hout fun i => ?_
    rw [← hhalf]
    exact texelA_writeAlphas ..

/-! ### The two readings of the empty 5-range (R382) -/

theorem sqDiff_eq_zero {x y : Nat} (h : sqDiff x y = 0) : x = y := by
  unfold sqDiff at h
  by_contra hne
  have : 0 < ((x : Int) - y) * ((x : Int) - y) := mul_self_pos.mpr (by omega)
  omega

/-- Where every valid alpha is 0 or 255, a 5-step codebook of any ends has them all, and the block decodes exactly. -/
theorem decodeAlpha5_of_extreme (p : Params) {T : Vector Word 16} {m : BitVec 16}
    (hall : ∀ v ∈ validAlphas m T, v = 0 ∨ v = 255) {i : Fin 16} (hi : slotValid m i = true) :
    (decodeAlpha5 (encodeAlpha5 p T m).bytes)[i] = texelA T[i] := by
  obtain ⟨r, hr⟩ : ∃ r, r = encoderRanges p T m := ⟨_, rfl⟩
  obtain ⟨h5, h5', h7, h7'⟩ := encoderRanges_lt p T m
  rw [← hr] at h5 h5'
  have hzero (v : Nat) (hv : v = 0 ∨ v = 255) : (nearestCode v (codes5 r.min5 r.max5)).1 = 0 := by
    have hle (j : Fin 8) := sqDiff_le (by omega : v ≤ 255) (codes5_le (by omega : r.min5 ≤ 255) h5' j)
    obtain ⟨-, hleast, -⟩ := nearestCode_spec fun j => Nat.lt_of_le_of_lt (hle j) (by decide)
    rcases hv with rfl | rfl
    · exact Nat.le_zero.mp (hleast 6)
    · exact Nat.le_zero.mp (hleast 7)
  obtain ⟨he5, -, -, -⟩ := encodeAlpha5_spec p T m r hr _ rfl
  have hfive : (encodeAlpha5 p T m).e5 = 0 := by
    rw [he5, fitCodes_error]
    refine List.sum_eq_zero fun e he => ?_
    obtain ⟨v, hv, rfl⟩ := List.mem_map.mp he
    exact hzero v (hall v hv)
  have hslot := sqDiff_decodeAlpha5 p T m r hr _ rfl i hi
  rw [if_pos (by omega), hzero _ (hall _ (mem_validAlphas.mpr ⟨i, hi, rfl⟩))] at hslot
  exact BitVec.eq_of_toNat_eq (sqDiff_eq_zero hslot).symm

/-- Encoders that start from the same ranges give the same result. -/
theorem encodeAlpha5_of_ranges {p q : Params} {T : Vector Word 16} {m : BitVec 16}
    (h : encoderRanges p T m = encoderRanges q T m) : encodeAlpha5 p T m = encodeAlpha5 q T m := by
  rw [encodeAlpha5, encodeAlpha5, h]

/-- Where some valid alpha is neither 0 nor 255 the 5-range is not empty, and its default is not asked for. -/
theorem encoderRanges_of_some (p q : Params) {T : Vector Word 16} {m : BitVec 16} {v : Nat} (hv : v ∈ validAlphas m T)
    (h0 : v ≠ 0) (h255 : v ≠ 255) : encoderRanges p T m = encoderRanges q T m := by
  have hspec := alphaRanges_spec T m
  have h7 := hspec.range7_nonempty hv
  have h5 := hspec.range5_nonempty hv h0 h255
  rw [encoderRanges, encoderRanges, fillEmpty_of_nonempty h7 h5, fillEmpty_of_nonempty h7 h5]

/-- Where every valid alpha is 0 both defaults are the range of 0. -/
theorem encoderRanges_of_zero {p q : Params} (hp : p.alphaEmpty5 = .otherRange) (hq : q.alphaEmpty5 = .collapse)
    {T : Vector Word 16} {m : BitVec 16} (hzero : ∀ v ∈ validAlphas m T, v = 0) :
    encoderRanges p T m = encoderRanges q T m := by
  by_cases hnil : validAlphas m T = []
  · rw [encoderRanges_of_nil p hnil, encoderRanges_of_nil q hnil]
  · obtain ⟨v, hv⟩ := List.exists_mem_of_ne_nil _ hnil
    have hspec := alphaRanges_spec T m
    have h7 := hspec.range7_nonempty hv
    obtain ⟨hmin5, hmax5⟩ := hspec.range5_empty fun v hv => .inl (hzero v hv)
    have hmem : 0 ∈ validAlphas m T := hzero v hv ▸ hv
    obtain ⟨hmin7, hmax7⟩ := hspec.range7 (fun v => validAlphas_le) ⟨hmem, fun w hw => Nat.zero_le w⟩
      ⟨hmem, fun w hw => (hzero w hw).le⟩
    obtain ⟨hother, hcollapse⟩ := fillEmpty_of_empty5 h7 (by omega)
    rw [encoderRanges, encoderRanges, hp, hq, hother, hcollapse, hmin7, hmax7, hmax5]

/-- Settles O55. The defaults differ only where every valid alpha is 0 or 255, and there both blocks decode exactly. -/
theorem emptyAlphaRange : Obligations.EmptyAlphaRange := by
  intro p q T m hp hq
  have hsome (h : ∃ v ∈ validAlphas m T, v ≠ 0 ∧ v ≠ 255) : encodeAlpha5 p T m = encodeAlpha5 q T m := by
    obtain ⟨v, hv, h0, h255⟩ := h
    exact encodeAlpha5_of_ranges (encoderRanges_of_some p q hv h0 h255)
  refine ⟨fun i hi => ?_, fun h => hsome ?_, fun h => encodeAlpha5_of_ranges (encoderRanges_of_zero hp hq fun v hv => ?_)⟩
  · by_cases h : ∃ v ∈ validAlphas m T, v ≠ 0 ∧ v ≠ 255
    · rw [hsome h]
    · have hall : ∀ v ∈ validAlphas m T, v = 0 ∨ v = 255 := fun v hv => by
        by_contra hv'
        exact h ⟨v, hv, not_or.mp hv'⟩
      rw [decodeAlpha5_of_extreme p hall hi, decodeAlpha5_of_extreme q hall hi]
  · obtain ⟨i, hi, h0, h255⟩ := h
    refine ⟨_, mem_validAlphas.mpr ⟨i, hi, rfl⟩, fun h => h0 (BitVec.eq_of_toNat_eq h), fun h => h255 (BitVec.eq_of_toNat_eq h)⟩
  · obtain ⟨i, hi, rfl⟩ := mem_validAlphas.mp hv
    rw [h i hi]
    rfl

end Sys2Proof.Machine
end

section
/-! PROOFS. The searches of the range and cluster fits: the nearest code (R230), the orderings (R261, R263), and the partition
search with its loop over orderings (R265, R266, R270, R281). -/

namespace Sys2Proof

/-! ### The ordered comparison (R152) -/

theorem F32.lt_of_lt_of_not_lt {x y z : F32} (h : x.lt y = true) (hz : z.lt y = false) (hnan : z.isNaN = false) :
    x.lt z = true := by
  obtain ⟨hx, hy, hkey⟩ := F32.lt_iff.mp h
  have hz' : ¬ z.key < y.key := fun hlt => by
    rw [(F32.lt_iff_key_lt hnan hy).mpr hlt] at hz
    exact Bool.noConfusion hz
  exact (F32.lt_iff_key_lt hx hnan).mpr (by omega)

namespace Machine

/-! ### The nearest code of the range fit (R230) -/

/-- What the loop of R230 holds after `n` codes: no code is nearer, and the code held is the first at its distance, if any code
was below FLT_MAX. -/
def NearestAfter (dist : Nat → F32) (n : Nat) (best : F32 × Nat) : Prop :=
  (∀ j, j < n → (dist j).lt best.1 = false) ∧
  (best.1 = F32.fltMax ∨ (best.2 < n ∧ best.1 = dist best.2 ∧
    ∀ j, j < best.2 → best.1.lt (dist j) = true ∨ (dist j).isNaN = true))

theorem NearestAfter.step {dist : Nat → F32} {n : Nat} {best : F32 × Nat} (h : NearestAfter dist n best) :
    NearestAfter dist (n + 1) (if (dist n).lt best.1 then (dist n, n) else best) := by
  obtain ⟨hleast, hheld⟩ := h
  cases hlt : (dist n).lt best.1 with
  | true =>
    rw [if_pos rfl]
    refine ⟨fun j hj => ?_, .inr ⟨Nat.lt_succ_self n, rfl, fun j hj => ?_⟩⟩
    · rcases Nat.lt_succ_iff_lt_or_eq.mp hj with hj | rfl
      · exact F32.not_lt_of_lt (hleast j hj) hlt
      · exact F32.lt_irrefl _
    · cases hnan : (dist j).isNaN with
      | true => exact .inr rfl
      | false => exact .inl (F32.lt_of_lt_of_not_lt hlt (hleast j hj) hnan)
  | false =>
    rw [if_neg Bool.false_ne_true]
    refine ⟨fun j hj => ?_, hheld.imp_right fun ⟨hidx, hrest⟩ => ⟨Nat.lt_succ_of_lt hidx, hrest⟩⟩
    rcases Nat.lt_succ_iff_lt_or_eq.mp hj with hj | rfl
    · exact hleast j hj
    · exact hlt

theorem nearestColour_spec {metric p : Vec3} {dist : Nat → F32} {codes : List Vec3}
    (hdist : ∀ j, dist j = (metric.mul (p.sub (codes.getD j zeroVec3))).lengthSquared) :
    NearestAfter dist codes.length (nearestColour metric codes p) := by
  have key (done rest : List Vec3) (hcodes : codes = done ++ rest) (best : F32 × Nat)
      (h : NearestAfter dist done.length best) :
      NearestAfter dist codes.length ((rest.zipIdx done.length).foldl
        (fun best cj =>
          let d := (metric.mul (p.sub cj.1)).lengthSquared
          if d.lt best.1 then (d, cj.2) else best) best) := by
    induction rest generalizing done best with
    | nil =>
      rw [hcodes, List.append_nil]
      exact h
    | cons c rest ih =>
      have hc : dist done.length = (metric.mul (p.sub c)).lengthSquared := by
        rw [hdist, hcodes]
        simp
      have hnext := h.step
      rw [hc] at hnext
      have := ih (done ++ [c]) (by simp [hcodes]) _ (by simpa using hnext)
      simpa [List.zipIdx_cons] using this
  exact key [] codes rfl (F32.fltMax, 0) ⟨fun j hj => absurd hj (Nat.not_lt_zero j), .inl rfl⟩

/-- Settles O42. -/
theorem rangeAssignNearest : Obligations.RangeAssignNearest := by
  intro metric codes p dist hdist
  exact nearestColour_spec hdist

/-! ### The stable sort (R261) -/

/-- `x` stands before `y` in a stable sort along the axis. -/
def StandsBefore (x y : Ranked) : Prop := x.dp.lt y.dp = true ∨ (y.dp.lt x.dp = false ∧ x.k < y.k)

/-- A new element with a higher index, inserted into a sorted prefix held last element first. -/
theorem insertRanked_sorted {x : Ranked} {l : List Ranked} (hx : x.dp.isNaN = false) (hl : ∀ y ∈ l, y.dp.isNaN = false)
    (hk : ∀ y ∈ l, y.k < x.k) (hsorted : l.Pairwise fun y z => StandsBefore z y) :
    (insertRanked x l).Pairwise fun y z => StandsBefore z y := by
  induction l with
  | nil => exact List.pairwise_singleton _ x
  | cons y l ih =>
    rw [List.pairwise_cons] at hsorted
    obtain ⟨hy, htail⟩ := hsorted
    unfold insertRanked
    split
    · next hlt =>
      refine List.pairwise_cons.mpr ⟨fun z hz => ?_, ih (fun z hz => hl z (List.mem_cons_of_mem y hz))
        (fun z hz => hk z (List.mem_cons_of_mem y hz)) htail⟩
      rcases List.mem_cons.mp ((insertRanked_perm x l).mem_iff.mp hz) with rfl | hz
      · exact .inl hlt
      · exact hy z hz
    · next hge =>
      rw [Bool.not_eq_true] at hge
      refine List.pairwise_cons.mpr ⟨fun z hz => .inr ⟨?_, hk z hz⟩, List.pairwise_cons.mpr ⟨hy, htail⟩⟩
      by_contra hlt
      rw [Bool.not_eq_false] at hlt
      have hbelow : x.dp.lt y.dp = true := by
        rcases List.mem_cons.mp hz with rfl | hz
        · exact hlt
        · rcases hy z hz with hzy | ⟨hyz, -⟩
          · exact F32.lt_trans hlt hzy
          · exact F32.lt_of_lt_of_not_lt hlt hyz (hl y List.mem_cons_self)
      rw [hbelow] at hge
      exact Bool.noConfusion hge

/-- The points with their projections and indices, in index order. -/
def rankedPoints (axis : Vec3) (pts : List (Vec3 × F32)) : List Ranked :=
  pts.zipIdx.map fun e => Ranked.mk (e.1.1.dot axis) e.2 e.1.1 e.1.2

theorem sortAlong_eq (axis : Vec3) (pts : List (Vec3 × F32)) :
    sortAlong axis pts = ((rankedPoints axis pts).foldl (fun acc x => insertRanked x acc) []).reverse := rfl

theorem map_k_rankedPoints (axis : Vec3) (pts : List (Vec3 × F32)) :
    (rankedPoints axis pts).map Ranked.k = List.range pts.length := by
  rw [rankedPoints, List.map_map, List.range_eq_range', ← List.zipIdx_map_snd 0 pts]
  rfl

theorem mem_rankedPoints {axis : Vec3} {pts : List (Vec3 × F32)} {r : Ranked} (h : r ∈ rankedPoints axis pts) :
    pts[r.k]? = some (r.p, r.w) ∧ r.dp = r.p.dot axis := by
  simp only [rankedPoints, List.mem_map, Prod.exists] at h
  obtain ⟨p, w, k, hk, rfl⟩ := h
  exact ⟨List.mem_zipIdx_iff_getElem?.mp hk, rfl⟩

theorem sortAlong_sorted {axis : Vec3} {pts : List (Vec3 × F32)} (hnan : ∀ p ∈ pts, (p.1.dot axis).isNaN = false) :
    (sortAlong axis pts).Pairwise StandsBefore := by
  have key (l acc : List Ranked) (hl : ∀ y ∈ l, y.dp.isNaN = false) (hacc : ∀ y ∈ acc, y.dp.isNaN = false)
      (hk : l.Pairwise fun y z => y.k < z.k) (hlow : ∀ y ∈ acc, ∀ z ∈ l, y.k < z.k)
      (hsorted : acc.Pairwise fun y z => StandsBefore z y) :
      (l.foldl (fun acc x => insertRanked x acc) acc).Pairwise fun y z => StandsBefore z y := by
    induction l generalizing acc with
    | nil => exact hsorted
    | cons x l ih =>
      rw [List.pairwise_cons] at hk
      have hmem {y : Ranked} (hy : y ∈ insertRanked x acc) : y = x ∨ y ∈ acc :=
        List.mem_cons.mp ((insertRanked_perm x acc).mem_iff.mp hy)
      refine ih _ (fun y hy => hl y (List.mem_cons_of_mem x hy)) (fun y hy => ?_) hk.2 (fun y hy z hz => ?_)
        (insertRanked_sorted (hl x List.mem_cons_self) hacc (fun y hy => hlow y hy x List.mem_cons_self) hsorted)
      · rcases hmem hy with rfl | hy
        · exact hl y List.mem_cons_self
        · exact hacc y hy
      · rcases hmem hy with rfl | hy
        · exact hk.1 z hz
        · exact hlow y hy z (List.mem_cons_of_mem x hz)
  rw [sortAlong_eq, List.pairwise_reverse]
  refine key _ [] (fun r hr => ?_) (by simp) ?_ (by simp) List.Pairwise.nil
  · obtain ⟨hpoint, hdp⟩ := mem_rankedPoints hr
    rw [hdp]
    exact hnan (r.p, r.w) (List.mem_of_getElem? hpoint)
  · have hrange := (List.pairwise_lt_range (n := pts.length))
    rw [← map_k_rankedPoints axis pts] at hrange
    exact List.pairwise_map.mp hrange

/-- Settles O44. -/
theorem orderingIsStableSort : Obligations.OrderingIsStableSort := by
  intro axis pts
  have hperm : (sortAlong axis pts).Perm (rankedPoints axis pts) := sortAlong_perm axis pts
  exact ⟨map_k_rankedPoints axis pts ▸ hperm.map Ranked.k, fun r hr => mem_rankedPoints (hperm.mem_iff.mp hr), sortAlong_sorted⟩

/-! ### The zero axis (R227, R263) -/

/-- The values a projection on the zero axis has: zeros of either sign, and NaNs. -/
def ZeroOrNaN (x : F32) : Prop := x.isNaN = true ∨ ∃ neg e, x.unpack = .fin neg 0 e

theorem zeroOrNaN_signedZero (neg : Bool) : ZeroOrNaN (F32.signedZero neg) := by
  cases neg
  · exact .inr ⟨_, _, rfl⟩
  · exact .inr ⟨_, _, rfl⟩

theorem zeroOrNaN_nan : ZeroOrNaN F32.nan := .inl rfl

theorem zeroOrNaN_mul_zero (x : F32) : ZeroOrNaN (x.mul F32.zero) := by
  have hzero : F32.zero.unpack = .fin false 0 (-149) := rfl
  cases hx : x.unpack with
  | nan =>
    have hmul : x.mul F32.zero = F32.nan := by simp [F32.mul, hx]
    exact hmul ▸ zeroOrNaN_nan
  | inf neg =>
    have hmul : x.mul F32.zero = F32.nan := by simp [F32.mul, hx, hzero]
    exact hmul ▸ zeroOrNaN_nan
  | fin neg m e =>
    have hmul : x.mul F32.zero = F32.signedZero (neg ^^ false) := by simp [F32.mul, hx, hzero, F32.round]
    exact hmul ▸ zeroOrNaN_signedZero _

theorem unpack_of_isNaN {x : F32} (h : x.isNaN = true) : x.unpack = .nan := by
  unfold F32.isNaN at h
  split at h
  · assumption
  · exact Bool.noConfusion h

theorem ZeroOrNaN.add {x y : F32} (hx : ZeroOrNaN x) (hy : ZeroOrNaN y) : ZeroOrNaN (x.add y) := by
  rcases hx with hx | ⟨a, e, hx⟩
  · have hadd : x.add y = F32.nan := by simp [F32.add, unpack_of_isNaN hx]
    exact hadd ▸ zeroOrNaN_nan
  · rcases hy with hy | ⟨b, f, hy⟩
    · have hadd : x.add y = F32.nan := by simp [F32.add, hx, unpack_of_isNaN hy]
      exact hadd ▸ zeroOrNaN_nan
    · have hadd : x.add y = F32.signedZero (a && b) := by simp [F32.add, hx, hy, signedInt]
      exact hadd ▸ zeroOrNaN_signedZero _

theorem ZeroOrNaN.lt_eq_false {x y : F32} (hx : ZeroOrNaN x) (hy : ZeroOrNaN y) : x.lt y = false := by
  rcases hx with hx | ⟨a, e, hx⟩
  · exact F32.lt_eq_false_of_isNaN (.inl hx)
  · rcases hy with hy | ⟨b, f, hy⟩
    · exact F32.lt_eq_false_of_isNaN (.inr hy)
    · rw [← Bool.not_eq_true, F32.lt_iff_value_lt (by simp [F32.isFinite, hx]) (by simp [F32.isFinite, hy])]
      simp [F32.value, hx, hy]

theorem zeroOrNaN_dot_zero (p : Vec3) : ZeroOrNaN (p.dot zeroVec3) :=
  ((zeroOrNaN_mul_zero p.x).add (zeroOrNaN_mul_zero p.y)).add (zeroOrNaN_mul_zero p.z)

/-- Settles O45. Along the zero axis no projection is below another, so every element stays where it is inserted. -/
theorem zeroAxisIdentityOrdering : Obligations.ZeroAxisIdentityOrdering := by
  intro pts
  have key (l acc : List Ranked) (hl : ∀ y ∈ l, ZeroOrNaN y.dp) (hacc : ∀ y ∈ acc, ZeroOrNaN y.dp) :
      l.foldl (fun acc x => insertRanked x acc) acc = l.reverse ++ acc := by
    induction l generalizing acc with
    | nil => rfl
    | cons x l ih =>
      have hinsert : insertRanked x acc = x :: acc := by
        cases acc with
        | nil => rfl
        | cons y ys =>
          rw [insertRanked, (hl x List.mem_cons_self).lt_eq_false (hacc y List.mem_cons_self), if_neg Bool.false_ne_true]
      rw [List.foldl_cons, hinsert, ih _ (fun y hy => hl y (List.mem_cons_of_mem x hy)), List.reverse_cons, List.append_assoc]
      · rfl
      · intro y hy
        rcases List.mem_cons.mp hy with rfl | hy
        · exact hl y List.mem_cons_self
        · exact hacc y hy
  have hsort : sortAlong zeroVec3 pts = rankedPoints zeroVec3 pts := by
    rw [sortAlong_eq, key _ [] (fun r hr => ?_) (by simp), List.append_nil, List.reverse_reverse]
    rw [(mem_rankedPoints hr).2]
    exact zeroOrNaN_dot_zero r.p
  rw [hsort, map_k_rankedPoints]

end Machine
end Sys2Proof
end

section
/-! PROOFS. The partition search of the cluster fit (R265, R266): its loops as one list of partitions, each tested in turn. -/

namespace Sys2Proof.Machine

/-! ### A list of partitions, tested in turn -/

/-- A partition with its solution: the cluster bounds `i`, `j`, `k`. -/
structure Partition where
  solution : Solution
  i : Nat
  j : Nat
  k : Nat

/-- The tests of R265 and R266 over a list of partitions. -/
def considerAll (it : Nat) (l : List Partition) (b : Search) : Search :=
  l.foldl (fun b c => b.consider c.solution c.i c.j c.k it) b

theorem considerAll_append (it : Nat) (l l' : List Partition) (b : Search) :
    considerAll it (l ++ l') b = considerAll it l' (considerAll it l b) := List.foldl_append

theorem considerAll_cons (it : Nat) (c : Partition) (l : List Partition) (b : Search) :
    considerAll it (c :: l) b = considerAll it l (b.consider c.solution c.i c.j c.k it) := rfl

/-- A running best and every solution have errors with equal lanes. -/
def SplatErrors (l : List Partition) : Prop := ∀ c ∈ l, c.solution.err = Vec4.splat c.solution.err.x

/-- What a list of tests leaves, from a running best of error `e`: an error `e'` that no tested one is below, of the incoming
best or of a tested partition. -/
structure BestOf (l : List Partition) (it : Nat) (b : Search) (e : F32) (r : Search) (e' : F32) : Prop where
  error : r.error = Vec4.splat e'
  not_above : ∀ x : F32, x.lt e = false → x.lt e' = false
  least : ∀ c ∈ l, c.solution.err.x.lt e' = false
  held : (r = b ∧ e' = e) ∨ ∃ c ∈ l, c.solution.err.x.lt e = true ∧ e' = c.solution.err.x ∧
    r = ⟨c.solution.err, c.solution.a, c.solution.b, c.i, c.j, c.k, it⟩

theorem BestOf.nil {it : Nat} {b : Search} {e : F32} (hb : b.error = Vec4.splat e) : BestOf [] it b e b e :=
  ⟨hb, fun _ h => h, fun _ h => absurd h List.not_mem_nil, .inl ⟨rfl, rfl⟩⟩

/-- One more test. -/
theorem BestOf.concat {l : List Partition} {it : Nat} {b r : Search} {e e' : F32} (h : BestOf l it b e r e') {c : Partition}
    (hc : c.solution.err = Vec4.splat c.solution.err.x) :
    ∃ e'', BestOf (l ++ [c]) it b e (r.consider c.solution c.i c.j c.k it) e'' := by
  have htest : c.solution.err.compareAnyLessThan r.error = c.solution.err.x.lt e' := by
    rw [h.error]
    exact (congrArg (fun v => Vec4.compareAnyLessThan v _) hc).trans (Vec4.compareAnyLessThan_splat _ _)
  have hmem {d : Partition} (hd : d ∈ l ++ [c]) : d ∈ l ∨ d = c := by simpa using hd
  unfold Search.consider
  rw [htest]
  cases hlt : c.solution.err.x.lt e' with
  | true =>
    rw [if_pos rfl]
    refine ⟨c.solution.err.x, hc, fun x hx => F32.not_lt_of_lt (h.not_above x hx) hlt, fun d hd => ?_, .inr ?_⟩
    · rcases hmem hd with hd | rfl
      · exact F32.not_lt_of_lt (h.least d hd) hlt
      · exact F32.lt_irrefl _
    · refine ⟨c, by simp, ?_, rfl, rfl⟩
      by_contra hge
      rw [Bool.not_eq_true] at hge
      rw [h.not_above _ hge] at hlt
      exact Bool.noConfusion hlt
  | false =>
    rw [if_neg Bool.false_ne_true]
    refine ⟨e', h.error, h.not_above, fun d hd => ?_, h.held.imp_right fun ⟨d, hd, hrest⟩ => ⟨d, by simp [hd], hrest⟩⟩
    rcases hmem hd with hd | rfl
    · exact h.least d hd
    · exact hlt

theorem considerAll_bestOf {l : List Partition} (hl : SplatErrors l) (it : Nat) {b : Search} {e : F32}
    (hb : b.error = Vec4.splat e) : ∃ e', BestOf l it b e (considerAll it l b) e' := by
  have key (done rest : List Partition) (r : Search) (e' : F32) (h : BestOf done it b e r e') (hrest : SplatErrors rest) :
      ∃ e'', BestOf (done ++ rest) it b e (considerAll it rest r) e'' := by
    induction rest generalizing done r e' with
    | nil =>
      rw [List.append_nil]
      exact ⟨e', h⟩
    | cons c rest ih =>
      obtain ⟨e'', hnext⟩ := h.concat (hrest c List.mem_cons_self)
      have := ih (done ++ [c]) _ e'' hnext fun d hd => hrest d (List.mem_cons_of_mem c hd)
      rwa [List.append_assoc, List.singleton_append] at this
  exact key [] l b e (BestOf.nil hb) hl

/-! ### The loops of the searches as lists of partitions (R265, R266) -/

/-- The sum of a cluster, added to the value it starts from. -/
def sumOnto (start : Vec4) (l : List Vec4) : Vec4 := l.foldl Vec4.add start

theorem sumOnto_cons (start x : Vec4) (l : List Vec4) : sumOnto start (x :: l) = sumOnto (start.add x) l := rfl

/-- The partitions of the loop over `j` of R265. -/
def partitions3Inner (metric xsum part0 : Vec4) (i : Nat) (l : List Vec4) (part1 : Vec4) (j : Nat) : List Partition :=
  (List.range (l.length + 1)).map fun d => ⟨solve3 metric xsum part0 (sumOnto part1 (l.take d)), i, j + d, 0⟩

theorem partitions3Inner_cons (metric xsum part0 : Vec4) (i : Nat) (x : Vec4) (l : List Vec4) (part1 : Vec4) (j : Nat) :
    partitions3Inner metric xsum part0 i (x :: l) part1 j =
      ⟨solve3 metric xsum part0 part1, i, j, 0⟩ :: partitions3Inner metric xsum part0 i l (part1.add x) (j + 1) := by
  simp only [partitions3Inner, List.length_cons, List.range_succ_eq_map (n := l.length + 1), List.map_cons, List.map_map,
    Function.comp_def, List.take_succ_cons, List.take_zero, sumOnto_cons, Nat.succ_eq_add_one, Nat.add_assoc, Nat.add_comm 1,
    Nat.add_zero]
  rfl

theorem enumerate3Inner_eq (metric xsum part0 : Vec4) (it i : Nat) (l : List Vec4) (part1 : Vec4) (j : Nat) (b : Search) :
    enumerate3Inner metric xsum part0 it i l part1 j b =
      considerAll it (partitions3Inner metric xsum part0 i l part1 j) b := by
  induction l generalizing part1 j b with
  | nil => rfl
  | cons x l ih =>
    rw [enumerate3Inner, ih, partitions3Inner_cons, considerAll_cons]

/-- The partitions of the loop over `i ≥ 1` of R265. -/
def partitions3From (metric xsum : Vec4) (l : List Vec4) (part0 : Vec4) (i : Nat) : List Partition :=
  (List.range l.length).flatMap fun d =>
    partitions3Inner metric xsum (sumOnto part0 (l.take d)) (i + d) (l.drop d) zero4 (i + d)

theorem partitions3From_cons (metric xsum x : Vec4) (l : List Vec4) (part0 : Vec4) (i : Nat) :
    partitions3From metric xsum (x :: l) part0 i =
      partitions3Inner metric xsum part0 i (x :: l) zero4 i ++ partitions3From metric xsum l (part0.add x) (i + 1) := by
  simp only [partitions3From, List.length_cons, List.range_succ_eq_map, List.flatMap_cons, List.flatMap_map,
    List.take_succ_cons, List.drop_succ_cons, List.take_zero, List.drop_zero, sumOnto_cons, Nat.succ_eq_add_one, Nat.add_assoc,
    Nat.add_comm 1, Nat.add_zero]
  rfl

theorem enumerate3From_eq (metric xsum : Vec4) (it : Nat) (l : List Vec4) (part0 : Vec4) (i : Nat) (b : Search) :
    enumerate3From metric xsum it l part0 i b = considerAll it (partitions3From metric xsum l part0 i) b := by
  induction l generalizing part0 i b with
  | nil => rfl
  | cons x l ih =>
    rw [enumerate3From, ih, enumerate3Inner_eq, partitions3From_cons, considerAll_append]

/-- The partitions of the loop over `k` of R266. -/
def partitions4Inner (metric xsum part0 part1 : Vec4) (i j : Nat) (l : List Vec4) (part2 : Vec4) (k : Nat) : List Partition :=
  (List.range (l.length + 1)).map fun d => ⟨solve4 metric xsum part0 part1 (sumOnto part2 (l.take d)), i, j, k + d⟩

theorem partitions4Inner_cons (metric xsum part0 part1 : Vec4) (i j : Nat) (x : Vec4) (l : List Vec4) (part2 : Vec4)
    (k : Nat) : partitions4Inner metric xsum part0 part1 i j (x :: l) part2 k =
      ⟨solve4 metric xsum part0 part1 part2, i, j, k⟩ ::
        partitions4Inner metric xsum part0 part1 i j l (part2.add x) (k + 1) := by
  simp only [partitions4Inner, List.length_cons, List.range_succ_eq_map (n := l.length + 1), List.map_cons, List.map_map,
    Function.comp_def, List.take_succ_cons, List.take_zero, sumOnto_cons, Nat.succ_eq_add_one, Nat.add_assoc, Nat.add_comm 1,
    Nat.add_zero]
  rfl

theorem enumerate4Inner_eq (metric xsum part0 part1 : Vec4) (it i j : Nat) (l : List Vec4) (part2 : Vec4) (k : Nat)
    (b : Search) : enumerate4Inner metric xsum part0 part1 it i j l part2 k b =
      considerAll it (partitions4Inner metric xsum part0 part1 i j l part2 k) b := by
  induction l generalizing part2 k b with
  | nil => rfl
  | cons x l ih =>
    rw [enumerate4Inner, ih, partitions4Inner_cons, considerAll_cons]

/-- The partitions of the loop over `j ≥ 1` of R266. -/
def partitions4Middle (metric xsum part0 : Vec4) (i : Nat) (l : List Vec4) (part1 : Vec4) (j : Nat) : List Partition :=
  (List.range (l.length + 1)).flatMap fun d =>
    partitions4Inner metric xsum part0 (sumOnto part1 (l.take d)) i (j + d) (l.drop d) zero4 (j + d)

theorem partitions4Middle_cons (metric xsum part0 : Vec4) (i : Nat) (x : Vec4) (l : List Vec4) (part1 : Vec4) (j : Nat) :
    partitions4Middle metric xsum part0 i (x :: l) part1 j =
      partitions4Inner metric xsum part0 part1 i j (x :: l) zero4 j ++
        partitions4Middle metric xsum part0 i l (part1.add x) (j + 1) := by
  simp only [partitions4Middle, List.length_cons, List.range_succ_eq_map (n := l.length + 1), List.flatMap_cons,
    List.flatMap_map, List.take_succ_cons, List.drop_succ_cons, List.take_zero, List.drop_zero, sumOnto_cons,
    Nat.succ_eq_add_one, Nat.add_assoc, Nat.add_comm 1, Nat.add_zero]
  rfl

theorem enumerate4Middle_eq (metric xsum part0 : Vec4) (it i : Nat) (l : List Vec4) (part1 : Vec4) (j : Nat) (b : Search) :
    enumerate4Middle metric xsum part0 it i l part1 j b =
      considerAll it (partitions4Middle metric xsum part0 i l part1 j) b := by
  induction l generalizing part1 j b with
  | nil =>
    rw [enumerate4Middle, enumerate4Inner_eq]
    simp [partitions4Middle, sumOnto]
  | cons x l ih =>
    rw [enumerate4Middle, ih, enumerate4Inner_eq, partitions4Middle_cons, considerAll_append]

/-- The partitions of the loop over `i ≥ 1` of R266. -/
def partitions4From (metric xsum : Vec4) (l : List Vec4) (part0 : Vec4) (i : Nat) : List Partition :=
  (List.range l.length).flatMap fun d =>
    partitions4Middle metric xsum (sumOnto part0 (l.take d)) (i + d) (l.drop d) zero4 (i + d)

theorem partitions4From_cons (metric xsum x : Vec4) (l : List Vec4) (part0 : Vec4) (i : Nat) :
    partitions4From metric xsum (x :: l) part0 i =
      partitions4Middle metric xsum part0 i (x :: l) zero4 i ++ partitions4From metric xsum l (part0.add x) (i + 1) := by
  simp only [partitions4From, List.length_cons, List.range_succ_eq_map, List.flatMap_cons, List.flatMap_map,
    List.take_succ_cons, List.drop_succ_cons, List.take_zero, List.drop_zero, sumOnto_cons, Nat.succ_eq_add_one, Nat.add_assoc,
    Nat.add_comm 1, Nat.add_zero]
  rfl

theorem enumerate4From_eq (metric xsum : Vec4) (it : Nat) (l : List Vec4) (part0 : Vec4) (i : Nat) (b : Search) :
    enumerate4From metric xsum it l part0 i b = considerAll it (partitions4From metric xsum l part0 i) b := by
  induction l generalizing part0 i b with
  | nil => rfl
  | cons x l ih =>
    rw [enumerate4From, ih, enumerate4Middle_eq, partitions4From_cons, considerAll_append]

/-- All partitions of an ordering, in the order the search of one ordering tests them. -/
def partitions (size : CodebookSize) (metric : Vec4) (pw : List Vec4) : List Partition :=
  match pw, size with
  | [], _ => []
  | x :: l, .three =>
    partitions3Inner metric (sumVec4 (x :: l)) zero4 0 l x 1 ++ partitions3From metric (sumVec4 (x :: l)) l (zero4.add x) 1
  | x :: l, .four =>
    partitions4Inner metric (sumVec4 (x :: l)) zero4 zero4 0 0 l x 1 ++
      (partitions4Middle metric (sumVec4 (x :: l)) zero4 0 l (zero4.add x) 1 ++
        partitions4From metric (sumVec4 (x :: l)) l (zero4.add x) 1)

theorem enumerate_eq (size : CodebookSize) (metric : Vec4) (it : Nat) (pw : List Vec4) (b : Search) :
    enumerate size metric it pw b = considerAll it (partitions size metric pw) b := by
  cases size with
  | three =>
    cases pw with
    | nil => rfl
    | cons x l => simp only [enumerate, enumerate3, partitions, considerAll_append, enumerate3Inner_eq, enumerate3From_eq]
  | four =>
    cases pw with
    | nil => rfl
    | cons x l =>
      simp only [enumerate, enumerate4, partitions, considerAll_append, enumerate4Inner_eq, enumerate4Middle_eq,
        enumerate4From_eq]

/-! ### Which partitions those are -/

/-- The points `i .. j-1` of an ordering, added to zero (R265, R266). -/
def clusterSum (pw : List Vec4) (i j : Nat) : Vec4 := sumOnto zero4 ((pw.drop i).take (j - i))

/-- The same, but a cluster that starts with point 0 starts at that point (R265, R266). -/
def clusterSkip (pw : List Vec4) (i j : Nat) : Vec4 :=
  if i = 0 then sumOnto (pw.getD 0 zero4) ((pw.drop 1).take (j - 1)) else clusterSum pw i j

theorem clusterSum_prefix (x : Vec4) (l : List Vec4) (d : Nat) :
    sumOnto (zero4.add x) (l.take d) = clusterSum (x :: l) 0 (1 + d) := by
  rw [clusterSum, List.drop_zero, Nat.sub_zero, Nat.add_comm, List.take_succ_cons, sumOnto_cons]

theorem clusterSum_infix (x : Vec4) (l : List Vec4) (i d : Nat) :
    sumOnto zero4 ((l.drop i).take d) = clusterSum (x :: l) (1 + i) (1 + i + d) := by
  rw [clusterSum, Nat.add_sub_cancel_left, Nat.add_comm 1 i, List.drop_succ_cons]

theorem clusterSkip_zero (x : Vec4) (l : List Vec4) (d : Nat) :
    sumOnto x (l.take d) = clusterSkip (x :: l) 0 (1 + d) := by
  rw [clusterSkip, if_pos rfl, Nat.add_sub_cancel_left]
  rfl

theorem clusterSkip_pos (pw : List Vec4) {i : Nat} (hi : 0 < i) (j : Nat) : clusterSkip pw i j = clusterSum pw i j :=
  if_neg (by omega)

/-- The partition with bounds `i ≤ j` into three clusters. -/
def partition3 (metric : Vec4) (pw : List Vec4) (i j : Nat) : Partition :=
  ⟨solve3 metric (sumVec4 pw) (clusterSum pw 0 i) (clusterSkip pw i j), i, j, 0⟩

/-- The partition with bounds `i ≤ j ≤ k` into four clusters. -/
def partition4 (metric : Vec4) (pw : List Vec4) (i j k : Nat) : Partition :=
  ⟨solve4 metric (sumVec4 pw) (clusterSum pw 0 i) (clusterSum pw i j) (clusterSkip pw j k), i, j, k⟩

/-- The 3-cluster search tests exactly the partitions of R265. -/
theorem mem_partitions_three {metric : Vec4} {pw : List Vec4} {c : Partition} :
    c ∈ partitions .three metric pw ↔
      ∃ i j, i < pw.length ∧ i ≤ j ∧ j ≤ pw.length ∧ 0 < j ∧ c = partition3 metric pw i j := by
  cases pw with
  | nil => simp [partitions]
  | cons x l =>
    simp only [partitions, partitions3Inner, partitions3From, List.mem_append, List.mem_flatMap, List.mem_map,
      List.mem_range, List.length_drop, List.length_cons]
    constructor
    · rintro (⟨d, hd, rfl⟩ | ⟨d, hd, e, he, rfl⟩)
      · refine ⟨0, 1 + d, by omega, by omega, by omega, by omega, ?_⟩
        rw [partition3, clusterSkip_zero]
        rfl
      · refine ⟨1 + d, 1 + d + e, by omega, by omega, by omega, by omega, ?_⟩
        rw [partition3, clusterSum_prefix, clusterSum_infix x, clusterSkip_pos _ (by omega)]
    · rintro ⟨i, j, hi, hij, hj, hpos, rfl⟩
      rcases Nat.eq_zero_or_pos i with rfl | hipos
      · obtain ⟨d, rfl⟩ : ∃ d, j = 1 + d := ⟨j - 1, by omega⟩
        refine .inl ⟨d, by omega, ?_⟩
        rw [partition3, clusterSkip_zero]
        rfl
      · obtain ⟨d, rfl⟩ : ∃ d, i = 1 + d := ⟨i - 1, by omega⟩
        obtain ⟨e, rfl⟩ : ∃ e, j = 1 + d + e := ⟨j - (1 + d), by omega⟩
        refine .inr ⟨d, by omega, e, by omega, ?_⟩
        rw [partition3, clusterSum_prefix, clusterSum_infix x, clusterSkip_pos _ (by omega)]

/-- The 4-cluster search tests exactly the partitions of R266. -/
theorem mem_partitions_four {metric : Vec4} {pw : List Vec4} {c : Partition} :
    c ∈ partitions .four metric pw ↔
      ∃ i j k, i < pw.length ∧ i ≤ j ∧ j ≤ k ∧ k ≤ pw.length ∧ 0 < k ∧ c = partition4 metric pw i j k := by
  cases pw with
  | nil => simp [partitions]
  | cons x l =>
    simp only [partitions, partitions4Inner, partitions4Middle, partitions4From, List.mem_append, List.mem_flatMap,
      List.mem_map, List.mem_range, List.length_drop, List.length_cons]
    constructor
    · rintro (⟨d, hd, rfl⟩ | ⟨d, hd, e, he, rfl⟩ | ⟨d, hd, e, he, f, hf, rfl⟩)
      · refine ⟨0, 0, 1 + d, by omega, by omega, by omega, by omega, by omega, ?_⟩
        rw [partition4, clusterSkip_zero]
        rfl
      · refine ⟨0, 1 + d, 1 + d + e, by omega, by omega, by omega, by omega, by omega, ?_⟩
        rw [partition4, clusterSum_prefix, clusterSum_infix x, clusterSkip_pos _ (by omega)]
        rfl
      · refine ⟨1 + d, 1 + d + e, 1 + d + e + f, by omega, by omega, by omega, by omega, by omega, ?_⟩
        rw [partition4, clusterSum_prefix, clusterSum_infix x, List.drop_drop, clusterSum_infix x,
          clusterSkip_pos _ (by omega), ← Nat.add_assoc]
    · rintro ⟨i, j, k, hi, hij, hjk, hk, hpos, rfl⟩
      rcases Nat.eq_zero_or_pos j with rfl | hjpos
      · obtain rfl : i = 0 := by omega
        obtain ⟨d, rfl⟩ : ∃ d, k = 1 + d := ⟨k - 1, by omega⟩
        refine .inl ⟨d, by omega, ?_⟩
        rw [partition4, clusterSkip_zero]
        rfl
      · rcases Nat.eq_zero_or_pos i with rfl | hipos
        · obtain ⟨d, rfl⟩ : ∃ d, j = 1 + d := ⟨j - 1, by omega⟩
          obtain ⟨e, rfl⟩ : ∃ e, k = 1 + d + e := ⟨k - (1 + d), by omega⟩
          refine .inr (.inl ⟨d, by omega, e, by omega, ?_⟩)
          rw [partition4, clusterSum_prefix, clusterSum_infix x, clusterSkip_pos _ (by omega)]
          rfl
        · obtain ⟨d, rfl⟩ : ∃ d, i = 1 + d := ⟨i - 1, by omega⟩
          obtain ⟨e, rfl⟩ : ∃ e, j = 1 + d + e := ⟨j - (1 + d), by omega⟩
          obtain ⟨f, rfl⟩ : ∃ f, k = 1 + d + e + f := ⟨k - (1 + d + e), by omega⟩
          refine .inr (.inr ⟨d, by omega, e, by omega, f, by omega, ?_⟩)
          rw [partition4, clusterSum_prefix, clusterSum_infix x, List.drop_drop, clusterSum_infix x,
            clusterSkip_pos _ (by omega), ← Nat.add_assoc]

theorem splatErrors_partitions (size : CodebookSize) (metric : Vec4) (pw : List Vec4) :
    SplatErrors (partitions size metric pw) := by
  intro c hc
  cases size with
  | three =>
    obtain ⟨i, j, -, -, -, -, rfl⟩ := mem_partitions_three.mp hc
    exact solve_err_splat ..
  | four =>
    obtain ⟨i, j, k, -, -, -, -, -, rfl⟩ := mem_partitions_four.mp hc
    exact solve_err_splat ..

/-- What the search of one ordering leaves. -/
theorem enumerate_bestOf (size : CodebookSize) (metric : Vec4) (it : Nat) (pw : List Vec4) {b : Search} {e : F32}
    (hb : b.error = Vec4.splat e) : ∃ e', BestOf (partitions size metric pw) it b e (enumerate size metric it pw b) e' := by
  rw [enumerate_eq]
  exact considerAll_bestOf (splatErrors_partitions size metric pw) it hb

/-- No tested partition is below the error left. -/
theorem BestOf.not_below {l : List Partition} {it : Nat} {b r : Search} {e e' : F32} (h : BestOf l it b e r e')
    (hl : SplatErrors l) {c : Partition} (hc : c ∈ l) : c.solution.err.compareAnyLessThan r.error = false := by
  rw [h.error, hl c hc, Vec4.compareAnyLessThan_splat]
  exact h.least c hc

/-- Settles O46. The partitions tested are those of the statement, with the sums it writes out. -/
theorem partitionSearchExhaustive : Obligations.PartitionSearchExhaustive := by
  intro metric it pw b e sumFrom sumSkip hb hfrom hskip
  have hfrom' : sumFrom = clusterSum pw := by
    funext i j
    exact hfrom i j
  have hskip' : sumSkip = clusterSkip pw := by
    funext i j
    rw [hskip, hfrom']
    rfl
  subst hfrom' hskip'
  have hsplat3 := splatErrors_partitions .three metric pw
  have hsplat4 := splatErrors_partitions .four metric pw
  obtain ⟨e3, h3⟩ := enumerate_bestOf .three metric it pw hb
  obtain ⟨e4, h4⟩ := enumerate_bestOf .four metric it pw hb
  refine ⟨fun i j hi hij hj hpos => ?_, ?_, fun i j k hi hij hjk hk hpos => ?_, ?_⟩
  · exact h3.not_below (c := partition3 metric pw i j) hsplat3 (mem_partitions_three.mpr ⟨i, j, hi, hij, hj, hpos, rfl⟩)
  · refine h3.held.imp (fun h => h.1) ?_
    rintro ⟨c, hc, -, -, hr⟩
    obtain ⟨i, j, hi, hij, hj, hpos, rfl⟩ := mem_partitions_three.mp hc
    exact ⟨i, j, _, hi, hij, hj, hpos, rfl, hr⟩
  · exact h4.not_below (c := partition4 metric pw i j k) hsplat4 (mem_partitions_four.mpr ⟨i, j, k, hi, hij, hjk, hk, hpos, rfl⟩)
  · refine h4.held.imp (fun h => h.1) ?_
    rintro ⟨c, hc, -, -, hr⟩
    obtain ⟨i, j, k, hi, hij, hjk, hk, hpos, rfl⟩ := mem_partitions_four.mp hc
    exact ⟨i, j, k, _, hi, hij, hjk, hk, hpos, rfl, hr⟩

end Sys2Proof.Machine
end

section
/-! PROOFS. The cluster fit (`43_fit_cluster.md`): its loop over orderings, the history it keeps, and what FIT_CLUSTER leaves
(R261, R270 to R276, R280, R281). -/

namespace Sys2Proof.Machine

/-! ### The error a search leaves (R270, R281) -/

/-- The weighted points in the order along an axis (R261). -/
def orderedPoints (axis : Vec3) (pts : List (Vec3 × F32)) : List Vec4 := (sortAlong axis pts).map weightedPoint

theorem constructOrdering_pw (pts : List (Vec3 × F32)) (o : Vector Byte 128) (axis : Vec3) (it : Nat) :
    (constructOrdering pts o axis it).pw = orderedPoints axis pts := rfl

/-- An error `e'` after a search is the one before it, `e`, or strictly below it. -/
structure Improved (e e' : F32) : Prop where
  not_above : ∀ x : F32, x.lt e = false → x.lt e' = false
  same_or_lt : e' = e ∨ e'.lt e = true

theorem Improved.refl (e : F32) : Improved e e := ⟨fun _ h => h, .inl rfl⟩

theorem Improved.trans {e e' e'' : F32} (h : Improved e e') (h' : Improved e' e'') : Improved e e'' := by
  refine ⟨fun x hx => h'.not_above x (h.not_above x hx), ?_⟩
  rcases h.same_or_lt with rfl | hlt
  · exact h'.same_or_lt
  · rcases h'.same_or_lt with rfl | hlt'
    · exact .inr hlt
    · exact .inr (F32.lt_trans hlt' hlt)

theorem BestOf.improved {l : List Partition} {it : Nat} {b r : Search} {e e' : F32} (h : BestOf l it b e r e') :
    Improved e e' := by
  refine ⟨h.not_above, ?_⟩
  rcases h.held with ⟨-, heq⟩ | ⟨c, -, hlt, heq, -⟩
  · exact .inl heq
  · exact .inr (heq ▸ hlt)

/-- The loop over orderings only improves the error. -/
theorem searchLoop_improved (size : CodebookSize) (metric : Vec4) (pts : List (Vec3 × F32)) (limit fuel it tried : Nat)
    (pw : List Vec4) (o : Vector Byte 128) (b : Search) (e : F32) (hb : b.error = Vec4.splat e) :
    ∃ e', (searchLoop size metric pts limit fuel it tried pw o b).best.error = Vec4.splat e' ∧ Improved e e' := by
  induction fuel generalizing it tried pw o b e with
  | zero => exact ⟨e, hb, .refl e⟩
  | succ fuel ih =>
    obtain ⟨e1, h1⟩ := enumerate_bestOf size metric it pw hb
    rw [searchLoop]
    dsimp only
    split
    · exact ⟨e1, h1.error, h1.improved⟩
    · split
      · exact ⟨e1, h1.error, h1.improved⟩
      · split
        · obtain ⟨e', herr, himp⟩ := ih (it + 1) (tried + 1) _ _ _ e1 h1.error
          exact ⟨e', herr, h1.improved.trans himp⟩
        · exact ⟨e1, h1.error, h1.improved⟩

/-- One turn of the loop over orderings, and the rest of it. -/
theorem searchLoop_succ_improved (size : CodebookSize) (metric : Vec4) (pts : List (Vec3 × F32)) (limit fuel it tried : Nat)
    (pw : List Vec4) (o : Vector Byte 128) (b : Search) (e : F32)
    (hb : (enumerate size metric it pw b).error = Vec4.splat e) :
    ∃ e', (searchLoop size metric pts limit (fuel + 1) it tried pw o b).best.error = Vec4.splat e' ∧ Improved e e' := by
  rw [searchLoop]
  dsimp only
  split
  · exact ⟨e, hb, .refl e⟩
  · split
    · exact ⟨e, hb, .refl e⟩
    · split
      · exact searchLoop_improved size metric pts limit fuel _ _ _ _ _ e hb
      · exact ⟨e, hb, .refl e⟩

theorem iterCount_pos (f : BitVec 9) : ∃ n, iterCount f = n + 1 := by
  unfold iterCount
  split <;> exact ⟨_, rfl⟩

/-- The error `ClusterSearch` leaves: no higher than the incoming one and than that of any partition of the first ordering;
without the iterative flag it is one of those. -/
theorem clusterSearch_error (size : CodebookSize) (f : BitVec 9) (pts : List (Vec3 × F32)) (axis : Vec3) (o : Vector Byte 128)
    (best : F32) :
    ∃ e, (clusterSearch size f pts axis o best).best.error = Vec4.splat e ∧ Improved best e ∧
      (∀ c ∈ partitions size (metric4 f) (orderedPoints axis pts), c.solution.err.x.lt e = false) ∧
      (isIterative f = false →
        e = best ∨ ∃ c ∈ partitions size (metric4 f) (orderedPoints axis pts), e = c.solution.err.x) := by
  obtain ⟨n, hn⟩ := iterCount_pos f
  obtain ⟨e1, h1⟩ := enumerate_bestOf size (metric4 f) 0 (orderedPoints axis pts)
    (b := ⟨Vec4.splat best, zero4, zero4, 0, 0, 0, 0⟩) rfl
  obtain ⟨e, herr, himp⟩ := searchLoop_succ_improved size (metric4 f) pts (iterCount f) n 0 1 (orderedPoints axis pts)
    (constructOrdering pts o axis 0).order ⟨Vec4.splat best, zero4, zero4, 0, 0, 0, 0⟩ e1 h1.error
  rw [← hn] at herr
  refine ⟨e, herr, h1.improved.trans himp, fun c hc => himp.not_above _ (h1.least c hc), fun hiter => ?_⟩
  have hone : iterCount f = 1 := by rw [iterCount, hiter]; rfl
  have hlast : (searchLoop size (metric4 f) pts 1 1 0 1 (orderedPoints axis pts) (constructOrdering pts o axis 0).order
      ⟨Vec4.splat best, zero4, zero4, 0, 0, 0, 0⟩).best =
      enumerate size (metric4 f) 0 (orderedPoints axis pts) ⟨Vec4.splat best, zero4, zero4, 0, 0, 0, 0⟩ := by
    rw [searchLoop]
    dsimp only
    split
    · rfl
    · rfl
  rw [hone, hlast, h1.error] at herr
  obtain rfl : e1 = e := congrArg Vec4.x herr
  rcases h1.held with ⟨-, heq⟩ | ⟨c, hc, -, heq, -⟩
  · exact .inl heq
  · exact .inr ⟨c, hc, heq⟩

/-- The error a trial leaves is that of its search. -/
theorem clusterTrial_error (size : CodebookSize) (axis : Vec3) (s : State) (b e : F32)
    (he : (clusterSearch size s.ps.cfg s.ps.used axis s.order b).best.error = Vec4.splat e) (himp : Improved b e) :
    (clusterTrial size axis (s, b)).2 = e ∧ (clusterTrial size axis (s, b)).1.ps = s.ps := by
  rcases clusterTrial_cases size axis (s, b) _ _ rfl rfl with ⟨hlt, h⟩ | ⟨hlt, h⟩
  · rw [h]
    rw [he, Vec4.compareAnyLessThan_splat] at hlt
    refine ⟨?_, rfl⟩
    rcases himp.same_or_lt with heq | hlt'
    · exact heq.symm
    · exact Bool.noConfusion (hlt.symm.trans hlt')
  · rw [h]
    exact ⟨congrArg Vec4.x he, rfl⟩

/-! ### The iterative fit against the plain one (R281) -/

/-- Two running fits of the same points, format and metric, the first without and the second with the iterative flag, the second's
error not above the first's. -/
structure NeverWorse (x y : State × F32) : Prop where
  points : y.1.ps.used = x.1.ps.used
  metric : metric4 y.1.ps.cfg = metric4 x.1.ps.cfg
  plain : isIterative x.1.ps.cfg = false
  error : x.2.lt y.2 = false

theorem NeverWorse.clusterTrial {x y : State × F32} (h : NeverWorse x y) (size : CodebookSize) (axis : Vec3) :
    NeverWorse (clusterTrial size axis x) (clusterTrial size axis y) := by
  obtain ⟨hpoints, hmetric, hplain, hle⟩ := h
  obtain ⟨e, he, himp, -, hheld⟩ := clusterSearch_error size x.1.ps.cfg x.1.ps.used axis x.1.order x.2
  obtain ⟨e', he', himp', hleast', -⟩ := clusterSearch_error size y.1.ps.cfg y.1.ps.used axis y.1.order y.2
  obtain ⟨herr, hps⟩ := clusterTrial_error size axis x.1 x.2 e he himp
  obtain ⟨herr', hps'⟩ := clusterTrial_error size axis y.1 y.2 e' he' himp'
  refine ⟨by rw [hps, hps', hpoints], by rw [hps, hps', hmetric], by rw [hps, hplain], ?_⟩
  rw [herr, herr']
  rw [hpoints, hmetric] at hleast'
  rcases hheld hplain with rfl | ⟨c, hc, rfl⟩
  · exact himp'.not_above _ hle
  · exact hleast' c hc

theorem NeverWorse.fitTrial {f g : BitVec 9} (hformat : isBC1 g = isBC1 f) (tr : Bool) (axis : Vec3) {x y : State × F32}
    (h : NeverWorse x y) :
    NeverWorse (Machine.fitTrial f tr (Machine.clusterTrial .three axis) (Machine.clusterTrial .four axis) x)
      (Machine.fitTrial g tr (Machine.clusterTrial .three axis) (Machine.clusterTrial .four axis) y) := by
  unfold Machine.fitTrial
  rw [hformat]
  split
  · split
    · exact h.clusterTrial .three axis
    · exact (h.clusterTrial .three axis).clusterTrial .four axis
  · exact h.clusterTrial .four axis

/-- Settles O47. The iterative search starts with the plain one's ordering and then only improves. -/
theorem iterativeClusterNeverWorse : Obligations.IterativeClusterNeverWorse := by
  intro s f hvalid hplain hiter hformat hmetric
  refine ⟨_, _, exec_fitCluster hvalid, exec_fitCluster hvalid, ?_⟩
  have hstart : NeverWorse (s.beginFit .cluster, F32.fltMax)
      (({ s with ps := { s.ps with cfg := f } } : State).beginFit .cluster, F32.fltMax) := by
    refine ⟨rfl, ?_, hplain, F32.lt_irrefl _⟩
    change metric4 f = metric4 s.ps.cfg
    rw [metric4, metric4, metric3, metric3, hmetric]
  exact (hstart.fitTrial hformat s.ps.transparent (principalAxis Config.params.libm s.ps)).error

/-! ### The ordering history (R261, R270, R275) -/

/-- Ordering number `it` of a history is a permutation of `n` points. -/
def OrderedAt (o : Vector Byte 128) (n it : Nat) : Prop :=
  ∃ ks : List Nat, ks.Perm (List.range n) ∧ ∀ m, m < n → orderByte o (16 * it + m) = BitVec.ofNat 8 (ks.getD m 0)

theorem orderByte_storeOrdering (o : Vector Byte 128) (it : Nat) (ks : List Nat) {n : Nat} (hn : n < 128) :
    orderByte (storeOrdering o it ks) n =
      if n / 16 = it ∧ n % 16 < ks.length then BitVec.ofNat 8 (ks.getD (n % 16) 0) else orderByte o n := by
  have hget (v : Vector Byte 128) : orderByte v n = v[n] := by
    simp [orderByte, Vector.getD, hn]
  rw [hget, hget, storeOrdering, Vector.getElem_ofFn]
  rfl

theorem storeOrdering_orderedAt (o : Vector Byte 128) {it n : Nat} (hit : it < 8) (hn : n ≤ 16) {ks : List Nat}
    (hks : ks.Perm (List.range n)) : OrderedAt (storeOrdering o it ks) n it := by
  have hlen : ks.length = n := by rw [hks.length_eq, List.length_range]
  refine ⟨ks, hks, fun m hm => ?_⟩
  have hdiv : (16 * it + m) / 16 = it := by omega
  have hmod : (16 * it + m) % 16 = m := by omega
  rw [orderByte_storeOrdering o it ks (by omega), hdiv, hmod, if_pos ⟨rfl, by omega⟩]

theorem OrderedAt.storeOrdering {o : Vector Byte 128} {n it it' : Nat} (h : OrderedAt o n it) (hit : it < 8) (hn : n ≤ 16)
    (hne : it ≠ it') (ks : List Nat) : OrderedAt (storeOrdering o it' ks) n it := by
  obtain ⟨ks', hks', hbytes⟩ := h
  refine ⟨ks', hks', fun m hm => ?_⟩
  have hdiv : (16 * it + m) / 16 = it := by omega
  rw [orderByte_storeOrdering o it' ks (by omega), hdiv, if_neg (fun h => hne h.1), hbytes m hm]

theorem constructOrdering_orderedAt (pts : List (Vec3 × F32)) (hpts : pts.length ≤ 16) (o : Vector Byte 128) (axis : Vec3)
    {it : Nat} (hit : it < 8) : OrderedAt (constructOrdering pts o axis it).order pts.length it :=
  storeOrdering_orderedAt o hit hpts (orderingIsStableSort axis pts).1

/-- The history keeps the ordering of the best partition. -/
theorem searchLoop_orderedAt (size : CodebookSize) (metric : Vec4) (pts : List (Vec3 × F32)) (hpts : pts.length ≤ 16)
    {limit : Nat} (hlimit : limit ≤ 8) (fuel it tried : Nat) (pw : List Vec4) (o : Vector Byte 128) (b : Search)
    (hit : it < limit) (hb : b.it ≤ it) (ho : ∀ it', it' ≤ it → OrderedAt o pts.length it') (r : SearchResult)
    (hr : r = searchLoop size metric pts limit fuel it tried pw o b) : OrderedAt r.order pts.length r.best.it := by
  induction fuel generalizing it tried pw o b with
  | zero =>
    subst hr
    exact ho _ hb
  | succ fuel ih =>
    have hb' : (enumerate size metric it pw b).it ≤ it := by
      rcases enumerate_it size metric it pw b with h | h <;> omega
    rw [searchLoop] at hr
    dsimp only at hr
    split at hr
    · subst hr
      exact ho _ hb'
    · split at hr
      · subst hr
        exact ho _ hb'
      · have hnext (axis : Vec3) (it' : Nat) (hit' : it' ≤ it + 1) :
            OrderedAt (constructOrdering pts o axis (it + 1)).order pts.length it' := by
          rcases Nat.lt_succ_iff_lt_or_eq.mp (Nat.lt_succ_of_le hit') with hlt | rfl
          · exact (ho it' (by omega)).storeOrdering (by omega) hpts (by omega) _
          · exact constructOrdering_orderedAt pts hpts o axis (by omega)
        split at hr
        · exact ih (it + 1) (tried + 1) _ _ _ (by omega) (by omega) (hnext _) hr
        · subst hr
          exact hnext _ _ (Nat.le_succ_of_le hb')

theorem clusterSearch_orderedAt (size : CodebookSize) (f : BitVec 9) (pts : List (Vec3 × F32)) (hpts : pts.length ≤ 16)
    (axis : Vec3) (o : Vector Byte 128) (best : F32) :
    OrderedAt (clusterSearch size f pts axis o best).order pts.length (clusterSearch size f pts axis o best).best.it := by
  obtain ⟨n, hn⟩ := iterCount_pos f
  refine searchLoop_orderedAt size (metric4 f) pts hpts (iterCount_le f) (iterCount f) 0 1 _ _ _ (by omega) (Nat.le_refl 0)
    (fun it' hit' => ?_) _ rfl
  obtain rfl : it' = 0 := by omega
  exact constructOrdering_orderedAt pts hpts o axis (by decide)

/-- The counters a search leaves (R270, R272). -/
theorem clusterSearch_counters (size : CodebookSize) (f : BitVec 9) (pts : List (Vec3 × F32)) (hpts : pts.length ≤ 16)
    (axis : Vec3) (o : Vector Byte 128) (best : F32) (r : SearchResult) (hr : r = clusterSearch size f pts axis o best) :
    1 ≤ r.tried ∧ r.tried ≤ 8 ∧ r.best.it ≤ 7 ∧ (isIterative f = false → r.tried = 1 ∧ r.best.it = 0) := by
  obtain ⟨hpos, htried, hit, -⟩ := clusterSearch_spec size f pts axis o best 256 (Nat.le_refl _) (by omega)
    fun n => (o[n]).isLt
  rw [← hr] at hpos htried hit
  have hcount := iterCount_le f
  refine ⟨hpos, by omega, by omega, fun hplain => ?_⟩
  have hone : iterCount f = 1 := by rw [iterCount, hplain]; rfl
  omega

/-- Without points a search finds nothing and stops after one ordering. -/
theorem clusterSearch_nil (size : CodebookSize) (f : BitVec 9) (axis : Vec3) (o : Vector Byte 128) (best : F32) :
    (clusterSearch size f [] axis o best).best.error = Vec4.splat best ∧ (clusterSearch size f [] axis o best).tried = 1 := by
  obtain ⟨n, hn⟩ := iterCount_pos f
  have henumerate (b : Search) : enumerate size (metric4 f) 0 [] b = b := by cases size <;> rfl
  rw [clusterSearch, hn, searchLoop]
  simp only [constructOrdering_pw, orderedPoints, sortAlong, List.zipIdx_nil, List.map_nil, List.foldl_nil, List.reverse_nil,
    henumerate]
  split
  · exact ⟨rfl, rfl⟩
  · split
    · exact ⟨rfl, rfl⟩
    · split
      · next hfresh => exact Bool.noConfusion hfresh
      · exact ⟨rfl, rfl⟩

/-- Where the history holds a permutation, each point has the index of its rank (R275). -/
theorem unorder_getElem {size : CodebookSize} {o : Vector Byte 128} {b : Search} {n : Nat} (hn : n ≤ 16)
    (ho : OrderedAt o n b.it) (k : Fin 16) {m : Nat} (hm : m < n) (hk : orderByte o (16 * b.it + m) = BitVec.ofNat 8 k.val) :
    (unorder size o b n)[k] = rankIndex size b m := by
  obtain ⟨ks, hks, hbytes⟩ := ho
  have hlen : ks.length = n := by rw [hks.length_eq, List.length_range]
  have hpoint (m' : Nat) (hm' : m' < n) : (orderByte o (16 * b.it + m')).toNat = ks.getD m' 0 ∧ ks.getD m' 0 < n := by
    have hmem : ks.getD m' 0 ∈ ks := by
      rw [List.getD_eq_getElem _ _ (by omega)]
      exact List.getElem_mem _
    have hlt := List.mem_range.mp (hks.mem_iff.mp hmem)
    refine ⟨?_, hlt⟩
    rw [hbytes m' hm', BitVec.toNat_ofNat]
    omega
  have hinj (m' : Nat) (hm' : m' < n) (heq : ks.getD m' 0 = ks.getD m 0) : m' = m := by
    have hnodup : ks.Nodup := hks.nodup_iff.mpr List.nodup_range
    rw [List.getD_eq_getElem _ _ (by omega), List.getD_eq_getElem _ _ (by omega)] at heq
    exact (List.Nodup.getElem_inj_iff hnodup).mp heq
  have hkval : ks.getD m 0 = k.val := by
    rw [← (hpoint m hm).1, hk, BitVec.toNat_ofNat]
    omega
  have key (j : Nat) (hj : j ≤ n) (u : Vector (BitVec 2) 16)
      (hu : u = (List.range j).foldl (fun u m => u.setIfInBounds (orderByte o (16 * b.it + m)).toNat (rankIndex size b m))
        (Vector.replicate 16 0#2)) : m < j → u[k] = rankIndex size b m := by
    induction j generalizing u with
    | zero => exact fun h => absurd h (Nat.not_lt_zero m)
    | succ j ih =>
      intro hmj
      rw [List.range_succ, List.foldl_append, List.foldl_cons, List.foldl_nil] at hu
      have hprev := ih (by omega) _ rfl
      rw [hu, Fin.getElem_fin, Vector.getElem_setIfInBounds, (hpoint j (by omega)).1]
      rcases Nat.lt_succ_iff_lt_or_eq.mp hmj with hlt | rfl
      · rw [if_neg fun heq => ?_]
        · exact hprev hlt
        · exact absurd (hinj j (by omega) (heq.trans hkval.symm)) (by omega)
      · rw [if_pos hkval]
  exact key n (Nat.le_refl n) _ rfl hm

/-! ### The candidate of a search and the trials of the fit (R231, R276, R280) -/

/-- The fit-result file after the trial of a search that won. -/
def clusterCandidate (ps : PointSet) (size : CodebookSize) (r : SearchResult) : FitResult :=
  ⟨true, .cluster, isFour size, r.best.start.getVec3, r.best.stop.getVec3,
    remapIndices ps.remap (unorder size r.order r.best ps.used.length)⟩

/-- What one trial leaves in the registers it writes. -/
theorem clusterTrial_fields {size : CodebookSize} {axis : Vec3} {t : State} {b : F32} {r : SearchResult} {won : Bool}
    (hkind : t.fit.kind = .cluster) (hr : r = clusterSearch size t.ps.cfg t.ps.used axis t.order b)
    (hwon : won = r.best.error.compareAnyLessThan (Vec4.splat b)) (out : State × F32)
    (hout : out = clusterTrial size axis (t, b)) :
    out.1.ps = t.ps ∧ out.1.order = r.order ∧ out.1.iters = r.tried ∧ out.2 = (if won then r.best.error.x else b) ∧
    out.1.bestIter = (if won then r.best.it else t.bestIter) ∧
    out.1.fit = (if won then clusterCandidate t.ps size r else t.fit) := by
  rcases clusterTrial_cases size axis (t, b) r _ hr rfl with ⟨hlt, h⟩ | ⟨hlt, h⟩ <;> rw [hwon, hlt, hout, h]
  · exact ⟨rfl, rfl, rfl, rfl, rfl, rfl⟩
  · refine ⟨rfl, rfl, rfl, rfl, rfl, ?_⟩
    rw [if_pos rfl, clusterCandidate, ← hkind]
    rfl

/-- The slots of a candidate: 3 outside the set, and the index of its point's rank inside (R196, R275). -/
theorem clusterCandidate_idx {ps : PointSet} {size : CodebookSize} {r : SearchResult}
    (ho : OrderedAt r.order ps.used.length r.best.it) (i : Fin 16) :
    (ps.remap[i] = none → (clusterCandidate ps size r).idx[i] = 3#2) ∧
    ∀ (k : Fin 16) (m : Nat), ps.remap[i] = some k → m < ps.used.length →
      orderByte r.order (16 * r.best.it + m) = BitVec.ofNat 8 k.val →
      (clusterCandidate ps size r).idx[i] = rankIndex size r.best m := by
  have hidx : (clusterCandidate ps size r).idx[i] =
      match ps.remap[i] with | none => 3#2 | some k => (unorder size r.order r.best ps.used.length)[k] := by
    simp only [clusterCandidate, remapIndices, Fin.getElem_fin, Vector.getElem_ofFn] <;> rfl
  refine ⟨fun h => by rw [hidx, h], fun k m h hm hk => ?_⟩
  rw [hidx, h]
  exact unorder_getElem (used_length_le ps) ho k hm hk

theorem rankIndex_eq (size : CodebookSize) (b : Search) (m : Nat) : rankIndex size b m =
    if m < b.i then 0#2 else if m < b.j then 2#2 else if isFour size = true ∧ m < b.k then 3#2 else 1#2 := by
  cases size <;> simp [rankIndex, isFour]

/-- A history that holds a permutation ranks every point. -/
theorem OrderedAt.rank {o : Vector Byte 128} {n it : Nat} (h : OrderedAt o n it) {k : Nat} (hk : k < n) :
    ∃ m, m < n ∧ orderByte o (16 * it + m) = BitVec.ofNat 8 k := by
  obtain ⟨ks, hks, hbytes⟩ := h
  have hlen : ks.length = n := by rw [hks.length_eq, List.length_range]
  obtain ⟨m, hm, hget⟩ := List.getElem_of_mem (hks.mem_iff.mpr (List.mem_range.mpr hk))
  refine ⟨m, by omega, ?_⟩
  rw [hbytes m (by omega), List.getD_eq_getElem _ _ hm, hget]

/-- The searches of a cluster fit of `s` and which of them won (R231, R276). -/
structure ClusterRuns (s : State) where
  axis : Vec3
  r3 : SearchResult
  r4 : SearchResult
  won3 : Bool
  run4 : Bool
  won4 : Bool
  best3 : F32
  search3 : r3 = clusterSearch .three s.ps.cfg s.ps.used axis s.order F32.fltMax
  wins3 : won3 = (isBC1 s.ps.cfg && r3.best.error.compareAnyLessThan (Vec4.splat F32.fltMax))
  error3 : best3 = if won3 then r3.best.error.x else F32.fltMax
  search4 : r4 = clusterSearch .four s.ps.cfg s.ps.used axis (if isBC1 s.ps.cfg then r3.order else s.order) best3
  runs4 : run4 = !(isBC1 s.ps.cfg && s.ps.transparent)
  wins4 : won4 = (run4 && r4.best.error.compareAnyLessThan (Vec4.splat best3))

/-- What the trials leave, by which of them ran and won. -/
theorem ClusterRuns.trials {s : State} (h : ClusterRuns s) (out : State × F32)
    (hout : out = fitTrial s.ps.cfg s.ps.transparent (clusterTrial .three h.axis) (clusterTrial .four h.axis)
      (s.beginFit .cluster, F32.fltMax)) :
    out.1.order = (if h.run4 then h.r4 else h.r3).order ∧ out.1.iters = (if h.run4 then h.r4 else h.r3).tried ∧
    out.2 = (if h.won4 then h.r4.best.error.x else h.best3) ∧
    out.1.bestIter = (if h.won4 then h.r4.best.it else if h.won3 then h.r3.best.it else s.bestIter) ∧
    out.1.fit = (if h.won4 then clusterCandidate s.ps .four h.r4 else if h.won3 then clusterCandidate s.ps .three h.r3
      else (s.beginFit .cluster).fit) := by
  obtain ⟨axis, r3, r4, won3, run4, won4, best3, search3, wins3, error3, search4, runs4, wins4⟩ := h
  dsimp only at hout ⊢
  cases hf : isBC1 s.ps.cfg with
  | false =>
    simp only [hf, Bool.false_and, Bool.not_false, Bool.false_eq_true, if_false] at wins3 search4 runs4 wins4
    subst wins3 runs4
    simp only [Bool.true_and] at wins4
    simp only [Bool.false_eq_true, if_false] at error3
    subst error3
    rw [fitTrial_of_not_bc1 hf] at hout
    obtain ⟨-, horder, hiters, herr, hit, hfit⟩ := clusterTrial_fields (t := s.beginFit .cluster) rfl search4 wins4 out hout
    exact ⟨horder, hiters, herr, hit, hfit⟩
  | true =>
    simp only [hf, Bool.true_and, if_true] at wins3 search4 runs4
    obtain ⟨x, hx⟩ : ∃ x, x = clusterTrial .three axis (s.beginFit .cluster, F32.fltMax) := ⟨_, rfl⟩
    obtain ⟨hps3, horder3, hiters3, herr3, hit3, hfit3⟩ := clusterTrial_fields (t := s.beginFit .cluster) rfl search3 wins3 x hx
    have hps3' : x.1.ps = s.ps := hps3
    cases htr : s.ps.transparent with
    | true =>
      simp only [htr, Bool.not_true] at runs4
      subst runs4
      simp only [Bool.false_and] at wins4
      subst wins4
      rw [htr, fitTrial_of_transparent hf, ← hx] at hout
      subst hout
      exact ⟨horder3, hiters3, herr3.trans error3.symm, hit3, hfit3⟩
    | false =>
      simp only [htr, Bool.not_false] at runs4
      subst runs4
      simp only [Bool.true_and] at wins4
      rw [htr, fitTrial_of_opaque hf, ← hx] at hout
      have hkind : x.1.fit.kind = .cluster := by
        rw [hfit3]
        split <;> rfl
      have herr3' : x.2 = best3 := herr3.trans error3.symm
      have hsearch : r4 = clusterSearch .four x.1.ps.cfg x.1.ps.used axis x.1.order x.2 := by
        rw [hps3', horder3, herr3', search4]
      have hwins : won4 = r4.best.error.compareAnyLessThan (Vec4.splat x.2) := by rw [herr3', wins4]
      obtain ⟨-, horder, hiters, herr, hit, hfit⟩ := clusterTrial_fields hkind hsearch hwins out hout
      refine ⟨horder, hiters, ?_, ?_, ?_⟩
      · rw [herr, herr3']
      · rw [hit, hit3]
        rfl
      · rw [hfit, hfit3, hps3']
        rfl

/-- What the winner of a cluster fit is: the search, the size of its codebook, and the facts about its history and counters. -/
theorem ClusterRuns.winner {s : State} (h : ClusterRuns s) {w : SearchResult}
    (hw : w = (if h.won4 then h.r4 else h.r3)) :
    OrderedAt w.order s.ps.used.length w.best.it ∧ w.best.it ≤ 7 ∧ (isIterative s.ps.cfg = false → w.best.it = 0) := by
  have hlen := used_length_le s.ps
  cases h4 : h.won4 with
  | true =>
    rw [h4, if_pos rfl, h.search4] at hw
    obtain ⟨-, -, hit, hplain⟩ := clusterSearch_counters _ _ _ hlen _ _ _ w hw
    exact ⟨hw ▸ clusterSearch_orderedAt _ _ _ hlen _ _ _, hit, fun hp => (hplain hp).2⟩
  | false =>
    rw [h4, if_neg Bool.false_ne_true, h.search3] at hw
    obtain ⟨-, -, hit, hplain⟩ := clusterSearch_counters _ _ _ hlen _ _ _ w hw
    exact ⟨hw ▸ clusterSearch_orderedAt _ _ _ hlen _ _ _, hit, fun hp => (hplain hp).2⟩

/-- The winner's candidate, error and iteration are the ones the trials leave. -/
theorem ClusterRuns.won_fields {s : State} (h : ClusterRuns s) {w : SearchResult} (hwon : (h.won3 || h.won4) = true)
    (hw : w = (if h.won4 then h.r4 else h.r3)) :
    ∃ size, isFour size = h.won4 ∧
      (if h.won4 then clusterCandidate s.ps .four h.r4 else if h.won3 then clusterCandidate s.ps .three h.r3
        else (s.beginFit .cluster).fit) = clusterCandidate s.ps size w ∧
      (if h.won4 then h.r4.best.error.x else h.best3) = w.best.error.x ∧
      (if h.won4 then h.r4.best.it else if h.won3 then h.r3.best.it else s.bestIter) = w.best.it := by
  subst hw
  cases h4 : h.won4 with
  | true => exact ⟨.four, rfl, rfl, rfl, rfl⟩
  | false =>
    rw [h4, Bool.or_false] at hwon
    refine ⟨.three, rfl, ?_, ?_, ?_⟩
    · rw [hwon]
      rfl
    · rw [h.error3, hwon]
      rfl
    · rw [hwon]
      rfl

/-- The last search a cluster fit ran, and its counters. -/
theorem ClusterRuns.last {s : State} (h : ClusterRuns s) {w : SearchResult} (hw : w = (if h.run4 then h.r4 else h.r3)) :
    1 ≤ w.tried ∧ w.tried ≤ 8 ∧ (isIterative s.ps.cfg = false → w.tried = 1) := by
  have hlen := used_length_le s.ps
  cases h4 : h.run4 with
  | true =>
    rw [h4, if_pos rfl, h.search4] at hw
    obtain ⟨hpos, hle, -, hplain⟩ := clusterSearch_counters _ _ _ hlen _ _ _ w hw
    exact ⟨hpos, hle, fun hp => (hplain hp).1⟩
  | false =>
    rw [h4, if_neg Bool.false_ne_true, h.search3] at hw
    obtain ⟨hpos, hle, -, hplain⟩ := clusterSearch_counters _ _ _ hlen _ _ _ w hw
    exact ⟨hpos, hle, fun hp => (hplain hp).1⟩

/-- For an empty set no trial wins, and one ordering is tried. -/
theorem ClusterRuns.of_empty {s : State} (h : ClusterRuns s) (hempty : s.ps.used = []) :
    h.won3 = false ∧ h.won4 = false ∧ (if h.run4 then h.r4 else h.r3).tried = 1 := by
  have hsearch3 := h.search3
  have hsearch4 := h.search4
  rw [hempty] at hsearch3 hsearch4
  obtain ⟨herr3, htried3⟩ := clusterSearch_nil .three s.ps.cfg h.axis s.order F32.fltMax
  obtain ⟨herr4, htried4⟩ := clusterSearch_nil .four s.ps.cfg h.axis (if isBC1 s.ps.cfg then h.r3.order else s.order) h.best3
  rw [← hsearch3] at herr3 htried3
  rw [← hsearch4] at herr4 htried4
  refine ⟨?_, ?_, ?_⟩
  · rw [h.wins3, herr3, Vec4.compareAnyLessThan_splat, F32.lt_irrefl, Bool.and_false]
  · rw [h.wins4, herr4, Vec4.compareAnyLessThan_splat, F32.lt_irrefl, Bool.and_false]
  · split <;> assumption

/-- The whole effect of FIT_CLUSTER, as a frame. -/
theorem fitCluster_frame {s t : State} {kind : FitKind} (h : FitState s kind t) (hother : t.besterrI = s.besterrI) :
    t.complete = { s with
      block := t.complete.block, fit := t.complete.fit, besterr := t.complete.besterr, iters := t.complete.iters,
      bestIter := t.complete.bestIter, order := t.complete.order, done := true, busy := false } := by
  have hframe := h.frame
  rw [hother] at hframe
  simp only [State.complete_block, State.complete_fit, State.complete_besterr, State.complete_iters, State.complete_bestIter,
    State.complete_order]
  generalize t.block = block, t.fit = fit, t.besterr = e', t.iters = n', t.bestIter = b', t.order = o' at hframe ⊢
  rw [hframe]
  rfl

/-- Settles O43. The registers are those of the trials, and the frame and the block are those of any fit. -/
theorem fitClusterResult : Obligations.FitClusterResult := by
  intro s axis r3 r4 bc1 won3 run4 won4 best3 hvalid hbc1 haxis hr3 hwon3 hbest3 hr4 hrun4 hwon4
  subst hbc1
  obtain ⟨h, rfl, rfl, rfl, rfl, rfl, rfl, rfl⟩ : ∃ h : ClusterRuns s, h.axis = axis ∧ h.r3 = r3 ∧ h.r4 = r4 ∧
      h.won3 = won3 ∧ h.run4 = run4 ∧ h.won4 = won4 ∧ h.best3 = best3 :=
    ⟨⟨axis, r3, r4, won3, run4, won4, best3, hr3, hwon3, hbest3, hr4, hrun4, hwon4⟩, rfl, rfl, rfl, rfl, rfl, rfl, rfl⟩
  obtain ⟨out, hout⟩ : ∃ out, out = clusterTrials Config.params s.ps (s.beginFit .cluster, F32.fltMax) := ⟨_, rfl⟩
  have hrun : commandRun .fitCluster s = { out.1 with besterr := out.2 } := by rw [hout]; exact fitClusterRun_eq _ s
  rw [clusterTrials, ← haxis] at hout
  obtain ⟨horder, hiters, herr, hit, hfit⟩ := h.trials out hout
  obtain ⟨hlast1, hlast8, hlastPlain⟩ := h.last rfl
  have hstate : FitState s .cluster (commandRun .fitCluster s) := fitClusterRun_state Config.params s
  have hother : (commandRun .fitCluster s).besterrI = s.besterrI := fitClusterRun_other Config.params s
  have hfitRun : (commandRun .fitCluster s).fit = out.1.fit := by rw [hrun]
  have hvalidOut : out.1.fit.valid = (h.won3 || h.won4) := by
    rw [hfit]
    cases h.won4 <;> cases h.won3 <;> rfl
  refine ⟨(commandRun .fitCluster s).complete, exec_of_not_due (if_pos hvalid), ?frame, hstate.hasKind, ?valid, ?iters, ?order,
    ?pos, ?le, fun hplain => ⟨?plainIters, fun hwritten => ?plainBest⟩, fun hno => ?unwritten, fun hwritten w hw => ?written,
    fun hcount => ?empty⟩
  case frame => exact fitCluster_frame hstate hother
  case valid => rw [State.complete_fit, hfitRun, hvalidOut]
  case iters => rw [State.complete_iters, hrun, hiters]
  case order => rw [State.complete_order, hrun, horder]
  case pos => rw [State.complete_iters, hrun]; exact hiters ▸ hlast1
  case le => rw [State.complete_iters, hrun]; exact hiters ▸ hlast8
  case plainIters => rw [State.complete_iters, hrun]; exact hiters.trans (hlastPlain hplain)
  case plainBest =>
    rw [State.complete_fit, hfitRun, hvalidOut] at hwritten
    obtain ⟨-, -, hzero⟩ := h.winner rfl
    rw [State.complete_bestIter, hrun]
    refine hit.trans ?_
    cases h4 : h.won4 with
    | true => simpa [h4] using hzero hplain
    | false =>
      rw [h4, Bool.or_false] at hwritten
      simpa [h4, hwritten] using hzero hplain
  case unwritten =>
    obtain ⟨hblock, hfitNo⟩ := hstate.unwritten hno
    rw [State.complete_fit, hfitRun, hvalidOut, Bool.or_eq_false_iff] at hno
    obtain ⟨h3, h4⟩ := hno
    refine ⟨?_, hblock, ?_, hfitNo⟩
    · rw [State.complete_besterr, hrun]
      refine herr.trans ?_
      rw [h4, if_neg Bool.false_ne_true, h.error3, h3, if_neg Bool.false_ne_true]
    · rw [State.complete_bestIter, hrun]
      refine hit.trans ?_
      rw [h4, h3, if_neg Bool.false_ne_true, if_neg Bool.false_ne_true]
  case written =>
    have hblock := hstate.written hwritten
    rw [State.complete_fit, hfitRun, hvalidOut] at hwritten
    obtain ⟨size, hsize, hcandidate, herrW, hitW⟩ := h.won_fields hwritten hw
    obtain ⟨ho, hle7, -⟩ := h.winner hw
    have hfitW : (commandRun .fitCluster s).complete.fit = clusterCandidate s.ps size w := by
      rw [State.complete_fit, hfitRun, hfit, hcandidate]
    have hbest : (commandRun .fitCluster s).complete.bestIter = w.best.it := by
      rw [State.complete_bestIter, hrun]
      exact hit.trans hitW
    have hbesterr : (commandRun .fitCluster s).complete.besterr = w.best.error.x := by
      rw [State.complete_besterr, hrun]
      exact herr.trans herrW
    refine ⟨?_, hbesterr, hbest, hbest ▸ hle7, ?_, ?_, fun i hi => ?_, fun i k m hi hm hk => ?_, fun k hk => ho.rank hk, hblock⟩
    · rw [hfitW]
      exact hsize
    · rw [hfitW]
      rfl
    · rw [hfitW]
      rfl
    · rw [hfitW]
      exact (clusterCandidate_idx ho i).1 hi
    · rw [hfitW, ← hsize, ← rankIndex_eq]
      exact (clusterCandidate_idx ho i).2 k m hi hm hk
  case empty =>
    have hused : s.ps.used = [] := by rw [PointSet.used, hcount, List.take_zero]
    obtain ⟨h3, h4, htried⟩ := h.of_empty hused
    refine ⟨?_, ?_⟩
    · rw [State.complete_fit, hfitRun, hvalidOut, h3, h4]
      rfl
    · rw [State.complete_iters, hrun]
      exact hiters.trans htried

end Sys2Proof.Machine
end

section
/-! PROOFS. The range fit and the single-colour fit (`42_fit_range.md` R228 to R235, `44_fit_single.md` R303 to R310): what they
leave. -/

namespace Sys2Proof.Machine

/-! ### The extreme points (R228) -/

/-- The first point of least and the first point of greatest projection among the points `l`. -/
structure ExtremesOf (dp : Vec3 → F32) (l : List Vec3) (e : Extremes) : Prop where
  least : ∃ k : Nat, l[k]? = some e.start ∧ e.lo = dp e.start ∧
    ∀ (j : Nat) (q : Vec3), l[j]? = some q → (dp q).lt e.lo = false ∧ (j < k → e.lo.lt (dp q) = true)
  greatest : ∃ k : Nat, l[k]? = some e.stop ∧ e.hi = dp e.stop ∧
    ∀ (j : Nat) (q : Vec3), l[j]? = some q → e.hi.lt (dp q) = false ∧ (j < k → (dp q).lt e.hi = true)

theorem getElem?_concat {l : List Vec3} {p q : Vec3} {j : Nat} (h : (l ++ [p])[j]? = some q) :
    l[j]? = some q ∨ (j = l.length ∧ q = p) := by
  rcases Nat.lt_trichotomy j l.length with hlt | rfl | hgt
  · rw [List.getElem?_append_left hlt] at h
    exact .inl h
  · rw [List.getElem?_concat_length] at h
    exact .inr ⟨rfl, (Option.some.inj h).symm⟩
  · rw [List.getElem?_eq_none (by simp; omega)] at h
    cases h

theorem getElem?_concat_of_some {l : List Vec3} {q : Vec3} {k : Nat} (h : l[k]? = some q) (p : Vec3) :
    (l ++ [p])[k]? = some q := by
  rw [List.getElem?_append_left (List.getElem?_eq_some_iff.mp h).1]
  exact h

theorem ExtremesOf.concat {axis : Vec3} {dp : Vec3 → F32} (hdp : ∀ p, dp p = p.dot axis) {l : List Vec3} {e : Extremes}
    (h : ExtremesOf dp l e) (hl : ∀ q ∈ l, (dp q).isNaN = false) (p : Vec3) (hp : (dp p).isNaN = false) :
    ExtremesOf dp (l ++ [p]) (e.consider axis p) := by
  obtain ⟨⟨k, hk, hlo, hleast⟩, ⟨k', hk', hhi, hgreatest⟩⟩ := h
  have hnew : (l ++ [p])[l.length]? = some p := List.getElem?_concat_length
  unfold Extremes.consider
  rw [← hdp]
  dsimp only
  cases hlt : (dp p).lt e.lo with
  | true =>
    rw [if_pos rfl]
    refine ⟨⟨l.length, hnew, rfl, fun j q hq => ?_⟩, ⟨k', getElem?_concat_of_some hk' p, hhi, fun j q hq => ?_⟩⟩
    · rcases getElem?_concat hq with hq | ⟨rfl, rfl⟩
      · have hge := (hleast j q hq).1
        exact ⟨F32.not_lt_of_lt hge hlt, fun _ => F32.lt_of_lt_of_not_lt hlt hge (hl q (List.mem_of_getElem? hq))⟩
      · exact ⟨F32.lt_irrefl _, fun hj => absurd hj (Nat.lt_irrefl _)⟩
    · rcases getElem?_concat hq with hq | ⟨rfl, rfl⟩
      · exact hgreatest j q hq
      · have hstart := (hgreatest k e.start hk).1
        rw [← hlo] at hstart
        have hlen := (List.getElem?_eq_some_iff.mp hk').1
        exact ⟨F32.not_lt_of_lt hstart hlt, fun hj => absurd hj (by omega)⟩
  | false =>
    rw [if_neg Bool.false_ne_true]
    have hkeep : ∃ k : Nat, (l ++ [p])[k]? = some e.start ∧ e.lo = dp e.start ∧
        ∀ (j : Nat) (q : Vec3), (l ++ [p])[j]? = some q → (dp q).lt e.lo = false ∧ (j < k → e.lo.lt (dp q) = true) := by
      refine ⟨k, getElem?_concat_of_some hk p, hlo, fun j q hq => ?_⟩
      rcases getElem?_concat hq with hq | ⟨rfl, rfl⟩
      · exact hleast j q hq
      · have hlen := (List.getElem?_eq_some_iff.mp hk).1
        exact ⟨hlt, fun hj => absurd hj (by omega)⟩
    cases hgt : e.hi.lt (dp p) with
    | true =>
      rw [if_pos rfl]
      refine ⟨hkeep, ⟨l.length, hnew, rfl, fun j q hq => ?_⟩⟩
      rcases getElem?_concat hq with hq | ⟨rfl, rfl⟩
      · have hge := (hgreatest j q hq).1
        have hbelow : (dp q).lt (dp p) = true := by
          obtain ⟨hehi, hpn, hkey⟩ := F32.lt_iff.mp hgt
          have hqn := hl q (List.mem_of_getElem? hq)
          rw [← Bool.not_eq_true, F32.lt_iff_key_lt hehi hqn] at hge
          exact (F32.lt_iff_key_lt hqn hpn).mpr (by omega)
        exact ⟨F32.lt_asymm hbelow, fun _ => hbelow⟩
      · exact ⟨F32.lt_irrefl _, fun hj => absurd hj (Nat.lt_irrefl _)⟩
    | false =>
      rw [if_neg Bool.false_ne_true]
      refine ⟨hkeep, ⟨k', getElem?_concat_of_some hk' p, hhi, fun j q hq => ?_⟩⟩
      rcases getElem?_concat hq with hq | ⟨rfl, rfl⟩
      · exact hgreatest j q hq
      · have hlen := (List.getElem?_eq_some_iff.mp hk').1
        exact ⟨hgt, fun hj => absurd hj (by omega)⟩

/-- The extreme points of a list that is not empty (R228). -/
theorem extremePoints_spec {axis : Vec3} {dp : Vec3 → F32} (hdp : ∀ p, dp p = p.dot axis) (p : Vec3) (rest : List Vec3)
    (hnan : ∀ q ∈ p :: rest, (dp q).isNaN = false) :
    ∃ e, ExtremesOf dp (p :: rest) e ∧ extremePoints axis (p :: rest) = (e.start, e.stop) := by
  have key (done todo : List Vec3) (e : Extremes) (h : ExtremesOf dp done e)
      (hall : ∀ q ∈ done ++ todo, (dp q).isNaN = false) :
      ExtremesOf dp (done ++ todo) (todo.foldl (Extremes.consider axis) e) := by
    induction todo generalizing done e with
    | nil => rwa [List.append_nil]
    | cons q todo ih =>
      have hstep := h.concat hdp (fun r hr => hall r (List.mem_append_left _ hr)) q
        (hall q (List.mem_append_right _ List.mem_cons_self))
      have := ih (done ++ [q]) _ hstep (by simpa using hall)
      rwa [List.append_assoc, List.singleton_append] at this
  have hone : ExtremesOf dp [p] ⟨p, p, p.dot axis, p.dot axis⟩ := by
    have hsingle {j : Nat} {q : Vec3} (hq : [p][j]? = some q) : j = 0 ∧ q = p := by
      rcases Nat.eq_zero_or_pos j with rfl | hpos
      · exact ⟨rfl, (Option.some.inj hq).symm⟩
      · rw [List.getElem?_eq_none (by simp only [List.length_singleton]; omega)] at hq
        cases hq
    refine ⟨⟨0, rfl, (hdp p).symm, fun j q hq => ?_⟩, ⟨0, rfl, (hdp p).symm, fun j q hq => ?_⟩⟩ <;>
      obtain ⟨rfl, rfl⟩ := hsingle hq <;> rw [hdp] <;> exact ⟨F32.lt_irrefl _, fun h => absurd h (Nat.lt_irrefl _)⟩
  exact ⟨_, key [p] rest _ hone hnan, rfl⟩

/-- The endpoints of the range fit are the snapped clamps of the first extreme points, whatever shows that a point is one. -/
theorem rangeEndpoints_of_first {lib : Libm} {ps : PointSet} {dp : Vec3 → F32} (hdp : ∀ p, dp p = p.dot (principalAxis lib ps))
    (hnan : ∀ q ∈ ps.used.map Prod.fst, (dp q).isNaN = false) (k : Nat) (p : Vec3) (hp : (ps.used.map Prod.fst)[k]? = some p) :
    ((∀ (j : Nat) (q : Vec3), (ps.used.map Prod.fst)[j]? = some q →
        (dp q).lt (dp p) = false ∧ (j < k → (dp p).lt (dp q) = true)) →
      (rangeEndpoints lib ps).1 = quantiseGrid p.clamp01) ∧
    ((∀ (j : Nat) (q : Vec3), (ps.used.map Prod.fst)[j]? = some q →
        (dp p).lt (dp q) = false ∧ (j < k → (dp q).lt (dp p) = true)) →
      (rangeEndpoints lib ps).2 = quantiseGrid p.clamp01) := by
  unfold rangeEndpoints
  generalize ps.used.map Prod.fst = pts at hnan hp
  cases pts with
  | nil => cases hp
  | cons q rest =>
    obtain ⟨e, ⟨⟨k0, hk0, hlo, hleast⟩, ⟨k1, hk1, hhi, hgreatest⟩⟩, heq⟩ := extremePoints_spec hdp q rest hnan
    rw [heq]
    refine ⟨fun hfirst => ?_, fun hfirst => ?_⟩
    · have hle := hleast k p hp
      have hle' := hfirst k0 e.start hk0
      rw [hlo] at hle
      rcases Nat.lt_trichotomy k k0 with hlt | rfl | hgt
      · exact absurd (hle'.1.symm.trans (hle.2 hlt)) Bool.false_ne_true
      · rw [Option.some.inj (hp.symm.trans hk0)]
      · exact absurd (hle.1.symm.trans (hle'.2 hgt)) Bool.false_ne_true
    · have hle := hgreatest k p hp
      have hle' := hfirst k1 e.stop hk1
      rw [hhi] at hle
      rcases Nat.lt_trichotomy k k1 with hlt | rfl | hgt
      · exact absurd (hle'.1.symm.trans (hle.2 hlt)) Bool.false_ne_true
      · rw [Option.some.inj (hp.symm.trans hk1)]
      · exact absurd (hle.1.symm.trans (hle'.2 hgt)) Bool.false_ne_true

/-- An empty set has zero endpoints. -/
theorem rangeEndpoints_of_nil (lib : Libm) {ps : PointSet} (h : ps.used.map Prod.fst = []) :
    rangeEndpoints lib ps = (zeroVec3, zeroVec3) := by
  have hzero : quantiseGrid (Vec3.splat F32.zero).clamp01 = zeroVec3 := by decide
  rw [rangeEndpoints, h]
  exact congrArg₂ Prod.mk hzero hzero

/-! ### The trials of the range fit (R231, R232, R233) -/

/-- A trial of the range fit: its mode, and its indices and error. -/
abbrev RangeTrialResult := Bool × List (BitVec 2) × F32

/-- What a range fit of `s` with the endpoints `e` holds after the trials `l`. -/
structure RangeAfter (s : State) (e : Vec3 × Vec3) (l : List RangeTrialResult) (x : State × F32) : Prop where
  ps : x.1.ps = s.ps
  least : ∀ r ∈ l, r.2.2.lt x.2 = false
  unwritten : x.1.fit.valid = false → x.2 = F32.fltMax
  written : x.1.fit.valid = true → x.1.fit.start = e.1 ∧ x.1.fit.stop = e.2 ∧
    (x.1.fit.mode4 = true → ∀ r ∈ l, r.1 = false → x.2.lt r.2.2 = true ∨ r.2.2.lt F32.fltMax = false) ∧
    ∃ r ∈ l, x.1.fit.mode4 = r.1 ∧ x.2 = r.2.2 ∧
      x.1.fit.idx = remapIndices s.ps.remap (indexVector r.2.1)

theorem RangeAfter.nil (s : State) (e : Vec3 × Vec3) : RangeAfter s e [] (s.beginFit .range, F32.fltMax) :=
  ⟨rfl, fun _ h => absurd h List.not_mem_nil, fun _ => rfl, fun h => Bool.noConfusion h⟩

/-- One more trial. A 3-colour trial is the first (R231). -/
theorem RangeAfter.concat {s : State} {e : Vec3 × Vec3} {l : List RangeTrialResult} {x : State × F32}
    (h : RangeAfter s e l x) (mode4 : Bool) (hfirst : mode4 = false → l = []) (codes : List Vec3) :
    RangeAfter s e (l ++ [(mode4, assign (metric3 s.ps.cfg) codes (s.ps.used.map Prod.fst))])
      (rangeTrial mode4 e.1 e.2 codes x) := by
  obtain ⟨a, ha⟩ : ∃ a, a = assign (metric3 s.ps.cfg) codes (s.ps.used.map Prod.fst) := ⟨_, rfl⟩
  rw [← ha]
  have hmem {r : RangeTrialResult} (hr : r ∈ l ++ [(mode4, a)]) : r ∈ l ∨ r = (mode4, a) := by simpa using hr
  rcases rangeTrial_cases mode4 e.1 e.2 codes x a (by rw [h.ps, ha]) with ⟨hlt, heq⟩ | ⟨hlt, heq⟩ <;> rw [heq]
  · refine ⟨h.ps, fun r hr => ?_, h.unwritten, fun hv => ?_⟩
    · rcases hmem hr with hr | rfl
      · exact h.least r hr
      · exact hlt
    · obtain ⟨hstart, hstop, hmode, r, hr, hheld⟩ := h.written hv
      refine ⟨hstart, hstop, fun h4 r' hr' h3 => ?_, r, by simp [hr], hheld⟩
      rcases hmem hr' with hr' | rfl
      · exact hmode h4 r' hr' h3
      · rw [hfirst h3] at hr
        exact absurd hr List.not_mem_nil
  · refine ⟨h.ps, fun r hr => ?_, fun hv => Bool.noConfusion hv, fun _ => ⟨rfl, rfl, fun h4 r hr h3 => ?_,
      (mode4, a), by simp, rfl, rfl, ?_⟩⟩
    · rcases hmem hr with hr | rfl
      · exact F32.not_lt_of_lt (h.least r hr) hlt
      · exact F32.lt_irrefl _
    · have h4' : mode4 = true := h4
      rcases hmem hr with hr | rfl
      · cases hnan : r.2.2.isNaN with
        | true => exact .inr (F32.lt_eq_false_of_isNaN (.inl hnan))
        | false => exact .inl (F32.lt_of_lt_of_not_lt hlt (h.least r hr) hnan)
      · exact absurd (h3.symm.trans h4') Bool.false_ne_true
    · rw [← h.ps]
      rfl

/-- The trials R231 allows. -/
def allowedTrials (s : State) (e : Vec3 × Vec3) : List RangeTrialResult :=
  let pts := s.ps.used.map Prod.fst
  if isBC1 s.ps.cfg = true ∧ s.ps.transparent = true then
    [(false, assign (metric3 s.ps.cfg) (rangeCodes3 e.1 e.2) pts)]
  else if isBC1 s.ps.cfg = true then
    [(false, assign (metric3 s.ps.cfg) (rangeCodes3 e.1 e.2) pts), (true, assign (metric3 s.ps.cfg) (rangeCodes4 e.1 e.2) pts)]
  else [(true, assign (metric3 s.ps.cfg) (rangeCodes4 e.1 e.2) pts)]

theorem rangeTrials_after (p : Params) (s : State) :
    RangeAfter s (rangeEndpoints p.libm s.ps) (allowedTrials s (rangeEndpoints p.libm s.ps))
      (rangeTrials p s.ps (s.beginFit .range, F32.fltMax)) := by
  rw [rangeTrials]
  generalize rangeEndpoints p.libm s.ps = e
  have hnil := RangeAfter.nil s e
  have h3 := hnil.concat false (fun _ => rfl) (rangeCodes3 e.1 e.2)
  unfold allowedTrials
  dsimp only
  cases hf : isBC1 s.ps.cfg with
  | false =>
    rw [fitTrial_of_not_bc1 hf, if_neg (by simp), if_neg (by simp)]
    exact hnil.concat true (fun h => Bool.noConfusion h) (rangeCodes4 e.1 e.2)
  | true =>
    cases htr : s.ps.transparent with
    | true =>
      rw [fitTrial_of_transparent hf, if_pos (by simp)]
      exact h3
    | false =>
      rw [fitTrial_of_opaque hf, if_neg (by simp), if_pos rfl]
      exact h3.concat true (fun h => Bool.noConfusion h) (rangeCodes4 e.1 e.2)

/-- The whole effect of FIT_RANGE, as a frame. -/
theorem fitRange_frame {s t : State} {kind : FitKind} (h : FitState s kind t)
    (hother : t.besterrI = s.besterrI ∧ SameCounters s t) :
    t.complete = { s with
      block := t.complete.block, fit := t.complete.fit, besterr := t.complete.besterr, done := true, busy := false } := by
  have hframe := h.frame
  obtain ⟨herr, hiters, hbest, horder⟩ := hother
  rw [herr, hiters, hbest, horder] at hframe
  simp only [State.complete_block, State.complete_fit, State.complete_besterr]
  generalize t.block = block, t.fit = fit, t.besterr = e' at hframe ⊢
  rw [hframe]
  rfl

theorem remapIndices_indexVector (remap : Vector (Option (Fin 16)) 16) (l : List (BitVec 2)) (i : Fin 16) :
    (remapIndices remap (indexVector l))[i] = match remap[i] with | none => 3#2 | some k => l.getD k.val 0#2 := by
  simp only [remapIndices, indexVector, Fin.getElem_fin, Vector.getElem_ofFn] <;> rfl

/-- Settles O40. The registers are those of the trials, and the frame and the block are those of any fit. -/
theorem fitRangeResult : Obligations.FitRangeResult := by
  rintro s pts dp e trials hvalid rfl hdp rfl htrials
  obtain ⟨out, hout⟩ : ∃ out, out = rangeTrials Config.params s.ps (s.beginFit .range, F32.fltMax) := ⟨_, rfl⟩
  have hafter := rangeTrials_after Config.params s
  have htrials' : trials = allowedTrials s (rangeEndpoints Config.params.libm s.ps) := htrials
  rw [← hout, ← htrials'] at hafter
  have hrun : commandRun .fitRange s = { out.1 with besterr := out.2 } := by rw [hout]; exact fitRangeRun_eq _ s
  have hstate : FitState s .range (commandRun .fitRange s) := fitRangeRun_state Config.params s
  have hfit : (commandRun .fitRange s).complete.fit = out.1.fit := by rw [State.complete_fit, hrun]
  have herr : (commandRun .fitRange s).complete.besterr = out.2 := by rw [State.complete_besterr, hrun]
  refine ⟨fun hnil => rangeEndpoints_of_nil _ hnil, fun hnan => ⟨fun k p hp => (rangeEndpoints_of_first hdp hnan k p hp).1,
    fun k p hp => (rangeEndpoints_of_first hdp hnan k p hp).2⟩, (commandRun .fitRange s).complete,
    exec_of_not_due (if_pos hvalid), fitRange_frame hstate (fitRangeRun_other Config.params s), hstate.hasKind, fun r hr => ?least,
    fun hno => ?unwritten, fun hwritten => ?written⟩
  case least => exact herr ▸ hafter.least r hr
  case unwritten =>
    obtain ⟨hblock, hfitNo⟩ := hstate.unwritten hno
    exact ⟨herr.trans (hafter.unwritten (hfit ▸ hno)), hblock, hfitNo⟩
  case written =>
    have hblock := hstate.written hwritten
    obtain ⟨hstart, hstop, hmode, r, hr, hmode4, hbest, hidx⟩ := hafter.written (hfit ▸ hwritten)
    rw [← hfit] at hstart hstop hmode hmode4 hidx
    rw [← herr] at hmode hbest
    refine ⟨hstart, hstop, ?_, hmode, r, hr, hmode4, hbest, fun i => ?_⟩
    · rw [← hstart, ← hstop]
      exact hblock
    · rw [hidx]
      exact remapIndices_indexVector ..

/-! ### The range fit of an empty set (R235) -/

/-- Every trial of an empty set has no indices and error 0. -/
theorem mem_allowedTrials_of_empty {s : State} (hused : s.ps.used = []) (e : Vec3 × Vec3) (r : RangeTrialResult) :
    r ∈ allowedTrials s e ↔ r.2 = ([], F32.zero) ∧ (isBC1 s.ps.cfg = false → r.1 = true) ∧
      (isBC1 s.ps.cfg = true → s.ps.transparent = true → r.1 = false) := by
  have hassign (codes : List Vec3) : assign (metric3 s.ps.cfg) codes (s.ps.used.map Prod.fst) = ([], F32.zero) := by
    rw [hused]
    rfl
  obtain ⟨mode4, a⟩ := r
  cases hf : isBC1 s.ps.cfg <;> cases htr : s.ps.transparent <;> cases mode4 <;> simp [allowedTrials, hassign, hf, htr]

/-- Settles O41. Every trial of an empty set has error 0, so the first one is written. -/
theorem fitRangeEmptySet : Obligations.FitRangeEmptySet := by
  intro s hvalid hcount hremap
  have hused : s.ps.used = [] := by rw [PointSet.used, hcount, List.take_zero]
  have hmem := mem_allowedTrials_of_empty hused (rangeEndpoints Config.params.libm s.ps)
  obtain ⟨hnil, -, t, hexec, -, -, hleast, hunwritten, hwritten⟩ :=
    fitRangeResult s _ _ _ (allowedTrials s (rangeEndpoints Config.params.libm s.ps)) hvalid rfl (fun p => rfl) rfl rfl
  have hvalid' : t.fit.valid = true := by
    by_contra hno
    rw [Bool.not_eq_true] at hno
    have hzero := hleast (!isBC1 s.ps.cfg, [], F32.zero) ((hmem _).mpr ⟨rfl, by simp, by simp +contextual⟩)
    rw [(hunwritten hno).1] at hzero
    exact absurd hzero (by decide : ¬ F32.zero.lt F32.fltMax = false)
  obtain ⟨hstart, hstop, hblock, hmode, r, hr, hmode4, hbest, hidx⟩ := hwritten hvalid'
  obtain ⟨hresult, hformat, -⟩ := (hmem r).mp hr
  have hbest' : t.besterr = F32.zero := by rw [hbest, hresult]
  have hidx' : t.fit.idx = Vector.replicate 16 3#2 := by
    apply Vector.ext
    intro i hi
    rw [Vector.getElem_replicate]
    have := hidx ⟨i, hi⟩
    rwa [hremap] at this
  have hends := hnil (by rw [hused]; rfl)
  rw [hends] at hstart hstop hblock
  have hhalf : t.blockHalf (!isBC1 s.ps.cfg) = candidateBytes t.fit.mode4 zeroVec3 zeroVec3 (Vector.replicate 16 3#2) := by
    rw [blockHalf_congr hblock, blockHalf_writeBlockHalf_same, hidx']
  refine ⟨t, hexec, hvalid', hbest', hstart, hstop, fun hf => ?bc1, fun hf => ?other⟩
  case bc1 =>
    have hthree : t.fit.mode4 = false := by
      by_contra hfour
      rw [Bool.not_eq_false] at hfour
      rcases hmode hfour (false, [], F32.zero) ((hmem _).mpr ⟨rfl, by simp [hf], fun _ _ => rfl⟩) rfl with hlt | hlt
      · rw [hbest', F32.lt_irrefl] at hlt
        exact Bool.noConfusion hlt
      · exact Bool.noConfusion hlt
    rw [hf, hthree] at hhalf
    exact ⟨hthree, hhalf.trans (by decide)⟩
  case other =>
    have hfour : t.fit.mode4 = true := hmode4.trans (hformat hf)
    rw [hf, hfour] at hhalf
    exact ⟨hfour, hhalf.trans (by decide)⟩

/-! ### The single-colour fit (R303 to R305, R310) -/

/-- The error of a single-colour result is below the running best a fit starts from. -/
theorem computeEndPoints_err_lt (p : Params) (size : CodebookSize) (col : SingleColour) :
    (computeEndPoints p size col).err < 2 ^ 31 - 1 := by
  have hcandidate (r g b : ScfSource) (index : BitVec 2) : (singleCandidate r g b index).err ≤ 195075 := by
    have hsq (e : Byte) : e.toNat ^ 2 ≤ 65025 := by
      have := e.isLt
      nlinarith
    have := hsq r.error; have := hsq g.error; have := hsq b.error
    simp only [singleCandidate]
    omega
  unfold computeEndPoints
  dsimp only
  split
  · exact (hcandidate ..).trans_lt (by norm_num)
  · exact (hcandidate ..).trans_lt (by norm_num)

/-- The fit-result file after a single-colour candidate is written. -/
def singleFit (ps : PointSet) (mode4 : Bool) (r : SingleResult) : FitResult :=
  ⟨true, .single, mode4, r.start, r.stop, remapIndices ps.remap (indexVector [r.index])⟩

/-- What a trial leaves in the fit-result file and as the running best. -/
theorem singleTrial_fields (p : Params) (mode4 : Bool) (col : SingleColour) (x : State × Nat) (hkind : x.1.fit.kind = .single)
    (r : SingleResult) (hr : r = computeEndPoints p (if mode4 then .four else .three) col) :
    (singleTrial p mode4 col x).1.ps = x.1.ps ∧
    (singleTrial p mode4 col x).1.fit = (if r.err < x.2 then singleFit x.1.ps mode4 r else x.1.fit) ∧
    (singleTrial p mode4 col x).2 = (if r.err < x.2 then r.err else x.2) := by
  rcases singleTrial_cases p mode4 col x r hr with ⟨hlt, h⟩ | ⟨hlt, h⟩ <;> rw [h]
  · rw [if_neg hlt, if_neg hlt]
    exact ⟨rfl, rfl, rfl⟩
  · rw [if_pos hlt, if_pos hlt, singleFit, ← hkind]
    exact ⟨rfl, rfl, rfl⟩

/-- The trials of a single-colour fit always write a candidate, in BC1 the 3-colour one unless the 4-colour one is better
(R231, R305). -/
theorem singleTrials_fields (p : Params) (s : State) (c3 c4 : SingleResult) (three : Bool)
    (h3 : c3 = computeEndPoints p .three (singleColour s.ps.point[0]))
    (h4 : c4 = computeEndPoints p .four (singleColour s.ps.point[0]))
    (hthree : three = (isBC1 s.ps.cfg && (s.ps.transparent || decide (c3.err ≤ c4.err)))) :
    (singleTrials p s.ps (s.beginFit .single, 2 ^ 31 - 1)).1.fit = singleFit s.ps (!three) (if three then c3 else c4) ∧
    (singleTrials p s.ps (s.beginFit .single, 2 ^ 31 - 1)).2 = (if three then c3 else c4).err := by
  have hlt3 : c3.err < 2 ^ 31 - 1 := h3 ▸ computeEndPoints_err_lt ..
  have hlt4 : c4.err < 2 ^ 31 - 1 := h4 ▸ computeEndPoints_err_lt ..
  rw [singleTrials]
  generalize singleColour s.ps.point[0] = col at h3 h4
  obtain ⟨hps3, hfit3, herr3⟩ := singleTrial_fields p false col (s.beginFit .single, 2 ^ 31 - 1) rfl c3 h3
  obtain ⟨-, hfit4, herr4⟩ := singleTrial_fields p true col (s.beginFit .single, 2 ^ 31 - 1) rfl c4 h4
  rw [if_pos hlt3] at hfit3 herr3
  rw [if_pos hlt4] at hfit4 herr4
  cases hf : isBC1 s.ps.cfg with
  | false =>
    rw [hf, Bool.false_and] at hthree
    rw [fitTrial_of_not_bc1 hf, hthree]
    exact ⟨hfit4, herr4⟩
  | true =>
    cases htr : s.ps.transparent with
    | true =>
      rw [hf, htr, Bool.true_or, Bool.true_and] at hthree
      rw [fitTrial_of_transparent hf, hthree]
      exact ⟨hfit3, herr3⟩
    | false =>
      rw [hf, htr, Bool.false_or, Bool.true_and] at hthree
      rw [fitTrial_of_opaque hf]
      obtain ⟨-, hfit, herr⟩ := singleTrial_fields p true col (singleTrial p false col (s.beginFit .single, 2 ^ 31 - 1))
        (by rw [hfit3]; rfl) c4 h4
      rw [hfit, herr, herr3, hfit3, hps3, hthree]
      by_cases hle : c3.err ≤ c4.err
      · have hge : ¬ c4.err < c3.err := by omega
        rw [if_neg hge, if_neg hge, decide_eq_true hle]
        exact ⟨rfl, rfl⟩
      · have hlt : c4.err < c3.err := by omega
        rw [if_pos hlt, if_pos hlt, decide_eq_false hle]
        exact ⟨rfl, rfl⟩

/-- The whole effect of FIT_SINGLE, as a frame. -/
theorem fitSingle_frame {s t : State} {kind : FitKind} (h : FitState s kind t)
    (hother : t.besterr = s.besterr ∧ SameCounters s t) (hvalid : t.fit.valid = true) :
    t.complete = { s.writeBlockHalf (colourHigh s.ps.cfg) (candidateBytes t.fit.mode4 t.fit.start t.fit.stop t.fit.idx) with
      fit := t.fit, besterrI := t.besterrI, done := true, busy := false } := by
  have hframe := h.frame
  obtain ⟨herr, hiters, hbest, horder⟩ := hother
  rw [herr, hiters, hbest, horder, h.written hvalid] at hframe
  generalize t.fit = fit, t.besterrI = e' at hframe ⊢
  rw [hframe]
  rfl

/-- Settles O37. -/
theorem fitSingleResult : Obligations.FitSingleResult := by
  intro s c3 c4 w three idx hvalid hcount hremap hc3 hc4 hthree hw hidx
  obtain ⟨hfit, herr⟩ := singleTrials_fields Config.params s c3 c4 three hc3 hc4 hthree
  rw [← hw] at hfit herr
  have hidx' : remapIndices s.ps.remap (indexVector [w.index]) = idx := by
    apply Vector.ext
    intro i hi
    rw [hidx, Vector.getElem_ofFn]
    refine (remapIndices_indexVector s.ps.remap [w.index] ⟨i, hi⟩).trans ?_
    cases hk : s.ps.remap[(⟨i, hi⟩ : Fin 16)] with
    | none => rfl
    | some k =>
      rw [hremap _ _ hk]
      rfl
  have hrunFit : (commandRun .fitSingle s).fit = ⟨true, .single, !three, w.start, w.stop, idx⟩ := by
    rw [← hidx']
    exact (congrArg State.fit (fitSingleRun_eq Config.params s)).trans hfit
  have hrunErr : (commandRun .fitSingle s).besterrI = BitVec.ofNat 32 w.err := by
    rw [← herr]
    exact congrArg State.besterrI (fitSingleRun_eq Config.params s)
  have hframe := fitSingle_frame (fitSingleRun_state Config.params s) (fitSingleRun_other Config.params s)
    (congrArg FitResult.valid hrunFit)
  have hbytes : candidateBytes (!three) w.start w.stop idx =
      if three then writeColourBlock3 w.start w.stop idx else writeColourBlock4 w.start w.stop idx := by
    cases three <;> rfl
  rw [exec_fitSingle hvalid hcount, hframe]
  have hrunFit' : (fitSingleRun Config.params s).fit = _ := hrunFit
  have hrunErr' : (fitSingleRun Config.params s).besterrI = _ := hrunErr
  rw [hrunFit', hrunErr', hbytes]
  rfl

end Sys2Proof.Machine
end

section
/-! PROOFS. The point-set builder (`41_pointset.md` R190 to R192, R197): its loop as an invariant of the slots done. -/

namespace Sys2Proof.Machine

/-! ### Slots done and slots to come -/

theorem pairwise_slots : slots.Pairwise (· < ·) := by decide

/-- Filtering for one more element, above all those filtered so far. -/
theorem filter_insert_last {l : List (Fin 16)} (hl : l.Pairwise (· < ·)) {n : Fin 16} (hn : n ∈ l) {p q : Fin 16 → Bool}
    (hp : ∀ j, p j = true → j < n) (hq : ∀ j, q j = true ↔ p j = true ∨ j = n) : l.filter q = l.filter p ++ [n] := by
  induction l with
  | nil => exact absurd hn List.not_mem_nil
  | cons x l ih =>
    rw [List.pairwise_cons] at hl
    obtain ⟨hx, htail⟩ := hl
    rcases List.mem_cons.mp hn with rfl | hmem
    · have hrest (j : Fin 16) (hj : j ∈ l) : q j = false ∧ p j = false := by
        have hlt := hx j hj
        have hpj : p j = false := by
          by_contra hpj
          rw [Bool.not_eq_false] at hpj
          exact absurd (hp j hpj) (lt_asymm hlt)
        refine ⟨?_, hpj⟩
        by_contra hqj
        rw [Bool.not_eq_false, hq, hpj] at hqj
        rcases hqj with h | rfl
        · exact Bool.noConfusion h
        · exact lt_irrefl _ hlt
      have hpn : p n = false := by
        by_contra h
        rw [Bool.not_eq_false] at h
        exact lt_irrefl _ (hp n h)
      rw [List.filter_cons_of_pos ((hq n).mpr (.inr rfl)), List.filter_cons_of_neg (by simp [hpn]),
        List.filter_eq_nil_iff.mpr fun j hj => by simp [(hrest j hj).1],
        List.filter_eq_nil_iff.mpr fun j hj => by simp [(hrest j hj).2]]
      rfl
    · have hne : x ≠ n := (hx n hmem).ne
      have hpq : q x = p x := by
        rw [Bool.eq_iff_iff, hq]
        exact ⟨fun h => h.resolve_right hne, .inl⟩
      cases hpx : p x with
      | true => rw [List.filter_cons_of_pos (hpq.trans hpx), List.filter_cons_of_pos hpx, ih htail hmem, List.cons_append]
      | false => rw [List.filter_cons_of_neg (by simp [hpq, hpx]), List.filter_cons_of_neg (by simp [hpx]), ih htail hmem]

/-! ### The merge test (R190) -/

theorem sameRgb_iff {t u : Word} :
    sameRgb t u = true ↔ texelR t = texelR u ∧ texelG t = texelG u ∧ texelB t = texelB u := by
  simp [sameRgb, and_assoc]

theorem sameRgb_comm (t u : Word) : sameRgb t u = sameRgb u t := by
  rw [Bool.eq_iff_iff, sameRgb_iff, sameRgb_iff]
  exact ⟨fun ⟨r, g, b⟩ => ⟨r.symm, g.symm, b.symm⟩, fun ⟨r, g, b⟩ => ⟨r.symm, g.symm, b.symm⟩⟩

theorem sameRgb_trans {t u v : Word} (h : sameRgb t u = true) (h' : sameRgb u v = true) : sameRgb t v = true := by
  rw [sameRgb_iff] at *
  obtain ⟨hr, hg, hb⟩ := h
  obtain ⟨hr', hg', hb'⟩ := h'
  exact ⟨hr.trans hr', hg.trans hg', hb.trans hb'⟩

theorem normalise8_of_sameRgb {t u : Word} (h : sameRgb t u = true) : normalise8 t = normalise8 u := by
  obtain ⟨hr, hg, hb⟩ := sameRgb_iff.mp h
  rw [normalise8, normalise8, hr, hg, hb]

variable (T : Vector Word 16) (m : BitVec 16) (f : BitVec 9)

theorem mergeable_eq (j : Fin 16) : mergeable m (isBC1 f) T[j] j = inPointSet T m f j := by
  have hle : decide (128 ≤ (texelA T[j]).toNat) = !decide ((texelA T[j]).toNat < 128) := by
    rw [← decide_not]
    exact decide_eq_decide.mpr Nat.not_lt.symm
  rw [mergeable, inPointSet, hle]
  cases isBC1 f <;> cases decide ((texelA T[j]).toNat < 128) <;> rfl

variable {T m f}

theorem mergeSlot_eq_none {i : Fin 16} (h : mergeSlot T m (isBC1 f) i = none) {j : Fin 16} (hj : j < i)
    (hin : inPointSet T m f j = true) : sameRgb T[i] T[j] = false := by
  rw [mergeSlot, List.find?_eq_none] at h
  have := h j (mem_slots j)
  rw [mergeable_eq, hin, decide_eq_true hj] at this
  simpa using this

theorem mergeSlot_eq_some {i j : Fin 16} (h : mergeSlot T m (isBC1 f) i = some j) :
    j < i ∧ inPointSet T m f j = true ∧ sameRgb T[i] T[j] = true := by
  have := List.find?_some h
  rw [mergeable_eq] at this
  simpa [and_assoc] using this

/-! ### The loop invariant -/

/-- What the builder holds with the slots below `n` done. -/
structure BuiltBelow (T : Vector Word 16) (m : BitVec 16) (f : BitVec 9) (n : Nat) (a : BuildAcc) : Prop where
  count : a.count ≤ n
  transparent : a.transparent = true ↔
    isBC1 f = true ∧ ∃ i : Fin 16, i.val < n ∧ slotValid m i = true ∧ (texelA T[i]).toNat < 128
  toCome : ∀ i : Fin 16, n ≤ i.val → a.remap[i] = none
  invalid : ∀ i : Fin 16, i.val < n → (a.remap[i] = none ↔ inPointSet T m f i = false)
  shared : ∀ i j k : Fin 16, a.remap[i] = some k → (a.remap[j] = some k ↔ j.val < n ∧ inPointSet T m f j = true ∧
    sameRgb T[i] T[j] = true)
  point : ∀ i k : Fin 16, a.remap[i] = some k → k.val < a.count ∧ a.point[k] = normalise8 T[i]
  used : ∀ k : Fin 16, k.val < a.count → ∃ i : Fin 16, a.remap[i] = some k
  ordered : ∀ j l k : Fin 16, a.remap[j] = some l → k < l → ∃ i : Fin 16, i < j ∧ a.remap[i] = some k
  weight : ∀ k : Fin 16, k.val < a.count → ∃ (i : Fin 16) (is : List (Fin 16)),
    slots.filter (fun j => a.remap[j] = some k) = i :: is ∧
    a.weight[k] = is.foldl (fun w j => w.add (texelWeight T[j] f)) (texelWeight T[i] f)

theorem BuiltBelow.start : BuiltBelow T m f 0 BuildAcc.start := by
  have hremap (i : Fin 16) : BuildAcc.start.remap[i] = none := Vector.getElem_replicate _
  refine ⟨Nat.le_refl 0, ⟨fun h => Bool.noConfusion h, fun ⟨_, i, hi, _⟩ => absurd hi (Nat.not_lt_zero _)⟩, fun i _ => hremap i,
    fun i hi => absurd hi (Nat.not_lt_zero _), fun i j k h => ?_, fun i k h => ?_, fun k hk => absurd hk (Nat.not_lt_zero _),
    fun j l k h => ?_, fun k hk => absurd hk (Nat.not_lt_zero _)⟩
  all_goals
    rw [hremap] at h
    cases h

/-- A slot outside the set: only the transparency flag may change. -/
theorem BuiltBelow.skip {i : Fin 16} {a : BuildAcc} (h : BuiltBelow T m f i.val a) (hout : inPointSet T m f i = false)
    (tr : Bool) (htr : tr = true ↔ a.transparent = true ∨ (isBC1 f = true ∧ slotValid m i = true ∧ (texelA T[i]).toNat < 128)) :
    BuiltBelow T m f (i.val + 1) { a with remap := a.remap.set i none, transparent := tr } := by
  have hset : a.remap.set i none = a.remap := by
    have hnone := h.toCome i (Nat.le_refl _)
    apply Vector.ext
    intro j hj
    rw [Vector.getElem_set]
    split
    · next heq =>
      subst heq
      exact hnone.symm
    · rfl
  have hcases {j : Fin 16} (hj : j.val < i.val + 1) : j.val < i.val ∨ j = i := by
    rcases Nat.lt_succ_iff_lt_or_eq.mp hj with hlt | heq
    · exact .inl hlt
    · exact .inr (Fin.ext heq)
  rw [hset]
  refine ⟨Nat.le_succ_of_le h.count, htr.trans ?_, fun j hj => h.toCome j (by omega), fun j hj => ?_, fun j l k hjk => ?_,
    h.point, h.used, h.ordered, h.weight⟩
  · rw [h.transparent]
    constructor
    · rintro (⟨hf, j, hj, hrest⟩ | ⟨hf, hrest⟩)
      · exact ⟨hf, j, by omega, hrest⟩
      · exact ⟨hf, i, by omega, hrest⟩
    · rintro ⟨hf, j, hj, hrest⟩
      rcases hcases hj with hlt | rfl
      · exact .inl ⟨hf, j, hlt, hrest⟩
      · exact .inr ⟨hf, hrest⟩
  · rcases hcases hj with hlt | rfl
    · exact h.invalid j hlt
    · exact ⟨fun _ => hout, fun _ => h.toCome j (Nat.le_refl _)⟩
  · refine (h.shared j l k hjk).trans ⟨fun ⟨hl, hrest⟩ => ⟨by omega, hrest⟩, fun ⟨hl, hin, hrest⟩ => ⟨?_, hin, hrest⟩⟩
    rcases hcases hl with hlt | rfl
    · exact hlt
    · exact absurd (hout.symm.trans hin) Bool.false_ne_true

theorem getElem_set_fin {α : Type} (v : Vector α 16) (i j : Fin 16) (x : α) :
    (v.set i x)[j] = if j = i then x else v[j] := by
  rw [Fin.getElem_fin, Vector.getElem_set]
  by_cases h : j = i
  · rw [if_pos h, if_pos (congrArg Fin.val h.symm)]
  · rw [if_neg h, if_neg fun hv => h (Fin.ext hv.symm)]
    rfl

/-- A slot done so far is below the next one, and in the set. -/
theorem BuiltBelow.of_remap {n : Nat} {a : BuildAcc} (h : BuiltBelow T m f n a) {j k : Fin 16} (hj : a.remap[j] = some k) :
    j.val < n ∧ inPointSet T m f j = true := by
  obtain ⟨hlt, hin, -⟩ := (h.shared j j k hj).mp hj
  exact ⟨hlt, hin⟩

/-- The transparency flag after one more slot of the set. -/
theorem BuiltBelow.transparent_succ {i : Fin 16} {a : BuildAcc} (h : BuiltBelow T m f i.val a) (hin : inPointSet T m f i = true) :
    a.transparent = true ↔
      isBC1 f = true ∧ ∃ j : Fin 16, j.val < i.val + 1 ∧ slotValid m j = true ∧ (texelA T[j]).toNat < 128 := by
  rw [h.transparent]
  constructor
  · rintro ⟨hf, j, hj, hrest⟩
    exact ⟨hf, j, by omega, hrest⟩
  · rintro ⟨hf, j, hj, hvalid, hlt⟩
    rcases Nat.lt_succ_iff_lt_or_eq.mp hj with hj | heq
    · exact ⟨hf, j, hj, hvalid, hlt⟩
    · obtain rfl := Fin.ext heq
      rw [inPointSet, hvalid, hf, decide_eq_true hlt] at hin
      exact Bool.noConfusion hin

/-- A slot of the set without an earlier match opens a point. -/
theorem BuiltBelow.addPoint {i : Fin 16} {a : BuildAcc} (h : BuiltBelow T m f i.val a) (hin : inPointSet T m f i = true)
    (hnew : ∀ j : Fin 16, j < i → inPointSet T m f j = true → sameRgb T[i] T[j] = false) :
    BuiltBelow T m f (i.val + 1) (a.addPoint i (normalise8 T[i]) (texelWeight T[i] f)) := by
  have hcount := h.count
  obtain ⟨c, hc⟩ : ∃ c : Fin 16, c.val = a.count := ⟨⟨a.count, by omega⟩, rfl⟩
  have hfin : Fin.ofNat 16 a.count = c := Fin.ext (by rw [hc]; exact Nat.mod_eq_of_lt (by omega))
  obtain ⟨b, hb⟩ : ∃ b, b = a.addPoint i (normalise8 T[i]) (texelWeight T[i] f) := ⟨_, rfl⟩
  have hremap (j : Fin 16) : b.remap[j] = if j = i then some c else a.remap[j] := by
    rw [hb, ← hfin]
    exact getElem_set_fin ..
  have hbcount : b.count = a.count + 1 := by rw [hb]; rfl
  have hpoint (k : Fin 16) : b.point[k] = if k = c then normalise8 T[i] else a.point[k] := by
    rw [hb, BuildAcc.addPoint, ← hc]
    simp only [Fin.getElem_fin, Vector.getElem_setIfInBounds, Fin.ext_iff, eq_comm]
  have hweight (k : Fin 16) : b.weight[k] = if k = c then texelWeight T[i] f else a.weight[k] := by
    rw [hb, BuildAcc.addPoint, ← hc]
    simp only [Fin.getElem_fin, Vector.getElem_setIfInBounds, Fin.ext_iff, eq_comm]
  have hi : a.remap[i] = none := h.toCome i (Nat.le_refl _)
  have hold {j k : Fin 16} (hj : a.remap[j] = some k) : j ≠ i ∧ k ≠ c := by
    refine ⟨fun heq => ?_, fun heq => ?_⟩
    · rw [heq, hi] at hj
      cases hj
    · have := (h.point j k hj).1
      rw [heq] at this
      omega
  have hcases {j k : Fin 16} (hj : b.remap[j] = some k) : (j = i ∧ k = c) ∨ (j ≠ i ∧ a.remap[j] = some k) := by
    rw [hremap] at hj
    split at hj
    · next heq => exact .inl ⟨heq, (Option.some.inj hj).symm⟩
    · next hne => exact .inr ⟨hne, hj⟩
  have hnew' {j k : Fin 16} (hj : a.remap[j] = some k) : b.remap[j] = some k := by rw [hremap, if_neg (hold hj).1, hj]
  rw [← hb]
  refine ⟨by omega, ?_, fun j hj => ?_, fun j hj => ?_, fun j l k hj => ?_, fun j k hj => ?_, fun k hk => ?_,
    fun j l k hj hkl => ?_, fun k hk => ?_⟩
  · rw [← h.transparent_succ hin, hb]
    rfl
  · rw [hremap, if_neg (by rintro rfl; omega)]
    exact h.toCome j (by omega)
  · rw [hremap]
    split
    · next heq =>
      subst heq
      simp [hin]
    · next hne => exact h.invalid j (by have := Fin.val_ne_of_ne hne; omega)
  · rcases hcases hj with ⟨rfl, rfl⟩ | ⟨hne, hj⟩
    · constructor
      · intro hl
        rcases hcases hl with ⟨rfl, -⟩ | ⟨-, hl⟩
        · exact ⟨Nat.lt_succ_self _, hin, sameRgb_iff.mpr ⟨rfl, rfl, rfl⟩⟩
        · exact absurd rfl (hold hl).2
      · rintro ⟨hl, hlin, hsame⟩
        rcases Nat.lt_succ_iff_lt_or_eq.mp hl with hlt | heq
        · exact absurd ((hnew l hlt hlin).symm.trans hsame) Bool.false_ne_true
        · rw [hremap, if_pos (Fin.ext heq)]
    · obtain ⟨hjlt, hjin⟩ := h.of_remap hj
      constructor
      · intro hl
        rcases hcases hl with ⟨-, rfl⟩ | ⟨-, hl⟩
        · exact absurd rfl (hold hj).2
        · obtain ⟨hlt, hrest⟩ := (h.shared j l k hj).mp hl
          exact ⟨by omega, hrest⟩
      · rintro ⟨hl, hlin, hsame⟩
        rcases Nat.lt_succ_iff_lt_or_eq.mp hl with hlt | heq
        · exact hnew' ((h.shared j l k hj).mpr ⟨hlt, hlin, hsame⟩)
        · obtain rfl := Fin.ext heq
          rw [sameRgb_comm] at hsame
          exact absurd ((hnew j hjlt hjin).symm.trans hsame) Bool.false_ne_true
  · rcases hcases hj with ⟨rfl, rfl⟩ | ⟨-, hj⟩
    · exact ⟨by omega, by rw [hpoint, if_pos rfl]⟩
    · obtain ⟨hlt, heq⟩ := h.point j k hj
      exact ⟨by omega, by rw [hpoint, if_neg (hold hj).2, heq]⟩
  · by_cases heq : k = c
    · exact ⟨i, by rw [hremap, if_pos rfl, heq]⟩
    · obtain ⟨j, hj⟩ := h.used k (by have := Fin.val_ne_of_ne heq; omega)
      exact ⟨j, hnew' hj⟩
  · rcases hcases hj with ⟨rfl, rfl⟩ | ⟨-, hj⟩
    · obtain ⟨j', hj'⟩ := h.used k (by rw [← hc]; exact hkl)
      exact ⟨j', (h.of_remap hj').1, hnew' hj'⟩
    · obtain ⟨j', hlt, hj'⟩ := h.ordered j l k hj hkl
      exact ⟨j', hlt, hnew' hj'⟩
  · by_cases heq : k = c
    · subst heq
      refine ⟨i, [], ?_, by rw [hweight, if_pos rfl]; rfl⟩
      have hnone : slots.filter (fun j => decide (a.remap[j] = some k)) = [] := by
        rw [List.filter_eq_nil_iff]
        intro j _ hj
        exact (hold (of_decide_eq_true hj)).2 rfl
      rw [filter_insert_last pairwise_slots (mem_slots i) (p := fun j => decide (a.remap[j] = some k)) (fun j hj => ?_)
        (fun j => ?_), hnone, List.nil_append]
      · exact (h.of_remap (of_decide_eq_true hj)).1
      · rw [decide_eq_true_eq, decide_eq_true_eq]
        refine ⟨fun hj => ?_, fun hj => ?_⟩
        · rcases hcases hj with ⟨heq, -⟩ | ⟨-, hj⟩
          · exact .inr heq
          · exact .inl hj
        · rcases hj with hj | rfl
          · exact hnew' hj
          · rw [hremap, if_pos rfl]
    · obtain ⟨j, js, hfilter, hsum⟩ := h.weight k (by have := Fin.val_ne_of_ne heq; omega)
      refine ⟨j, js, ?_, by rw [hweight, if_neg heq, hsum]⟩
      rw [← hfilter]
      refine List.filter_congr fun l _ => decide_eq_decide.mpr ⟨fun hl => ?_, hnew'⟩
      rcases hcases hl with ⟨-, hk'⟩ | ⟨-, hl⟩
      · exact absurd hk' heq
      · exact hl

/-- A slot of the set with an earlier match joins its point. -/
theorem BuiltBelow.mergeInto {i j0 k0 : Fin 16} {a : BuildAcc} (h : BuiltBelow T m f i.val a) (hin : inPointSet T m f i = true)
    (hj0 : a.remap[j0] = some k0) (hsame0 : sameRgb T[i] T[j0] = true) :
    BuiltBelow T m f (i.val + 1) (a.mergeInto i k0 (texelWeight T[i] f)) := by
  obtain ⟨b, hb⟩ : ∃ b, b = a.mergeInto i k0 (texelWeight T[i] f) := ⟨_, rfl⟩
  have hremap (j : Fin 16) : b.remap[j] = if j = i then some k0 else a.remap[j] := by
    rw [hb]
    exact getElem_set_fin ..
  have hweight (k : Fin 16) :
      b.weight[k] = if k = k0 then (a.weight[k0]).add (texelWeight T[i] f) else a.weight[k] := by
    rw [hb]
    exact getElem_set_fin ..
  have hbcount : b.count = a.count := by rw [hb]; rfl
  have hbpoint : b.point = a.point := by rw [hb]; rfl
  have hi : a.remap[i] = none := h.toCome i (Nat.le_refl _)
  have hne {j k : Fin 16} (hj : a.remap[j] = some k) : j ≠ i := by
    rintro rfl
    rw [hi] at hj
    cases hj
  have hcases {j k : Fin 16} (hj : b.remap[j] = some k) : (j = i ∧ k = k0) ∨ (j ≠ i ∧ a.remap[j] = some k) := by
    rw [hremap] at hj
    split at hj
    · next heq => exact .inl ⟨heq, (Option.some.inj hj).symm⟩
    · next hne => exact .inr ⟨hne, hj⟩
  have hnew {j k : Fin 16} (hj : a.remap[j] = some k) : b.remap[j] = some k := by rw [hremap, if_neg (hne hj), hj]
  obtain ⟨hj0lt, hj0in⟩ := h.of_remap hj0
  obtain ⟨hk0, hpoint0⟩ := h.point j0 k0 hj0
  have hsame0' : sameRgb T[j0] T[i] = true := sameRgb_comm _ _ ▸ hsame0
  rw [← hb]
  refine ⟨by have := h.count; omega, ?_, fun j hj => ?_, fun j hj => ?_, fun j l k hj => ?_, fun j k hj => ?_, fun k hk => ?_,
    fun j l k hj hkl => ?_, fun k hk => ?_⟩
  · rw [← h.transparent_succ hin, hb]
    rfl
  · rw [hremap, if_neg (by rintro rfl; omega)]
    exact h.toCome j (by omega)
  · rw [hremap]
    split
    · next heq =>
      subst heq
      simp [hin]
    · next hne => exact h.invalid j (by have := Fin.val_ne_of_ne hne; omega)
  · have hold {l : Fin 16} (hl : l.val < i.val + 1) (hli : l ≠ i) : l.val < i.val := by
      have := Fin.val_ne_of_ne hli
      omega
    have hmem (l : Fin 16) : b.remap[l] = some k0 ↔ l.val < i.val + 1 ∧ inPointSet T m f l = true ∧ sameRgb T[j0] T[l] = true := by
      by_cases hli : l = i
      · subst hli
        rw [hremap, if_pos rfl]
        exact ⟨fun _ => ⟨Nat.lt_succ_self _, hin, hsame0'⟩, fun _ => rfl⟩
      · rw [hremap, if_neg hli, h.shared j0 l k0 hj0]
        exact ⟨fun ⟨hl, hrest⟩ => ⟨by omega, hrest⟩, fun ⟨hl, hrest⟩ => ⟨hold hl hli, hrest⟩⟩
    rcases hcases hj with ⟨rfl, rfl⟩ | ⟨-, hja⟩
    · rw [hmem]
      exact ⟨fun ⟨hl, hlin, hs⟩ => ⟨hl, hlin, sameRgb_trans hsame0 hs⟩,
        fun ⟨hl, hlin, hs⟩ => ⟨hl, hlin, sameRgb_trans hsame0' hs⟩⟩
    · by_cases hk : k = k0
      · subst hk
        have hsame := ((h.shared j j0 k hja).mp hj0).2.2
        rw [hmem]
        exact ⟨fun ⟨hl, hlin, hs⟩ => ⟨hl, hlin, sameRgb_trans hsame hs⟩,
          fun ⟨hl, hlin, hs⟩ => ⟨hl, hlin, sameRgb_trans (sameRgb_comm _ _ ▸ hsame) hs⟩⟩
      · by_cases hli : l = i
        · subst hli
          rw [hremap, if_pos rfl]
          refine ⟨fun heq => absurd (Option.some.inj heq).symm hk, fun ⟨_, _, hs⟩ => ?_⟩
          have := (h.shared j j0 k hja).mpr ⟨hj0lt, hj0in, sameRgb_trans hs hsame0⟩
          exact absurd (Option.some.inj (this.symm.trans hj0)) hk
        · rw [hremap, if_neg hli, h.shared j l k hja]
          exact ⟨fun ⟨hl, hrest⟩ => ⟨by omega, hrest⟩, fun ⟨hl, hrest⟩ => ⟨hold hl hli, hrest⟩⟩
  · rw [hbcount, hbpoint]
    rcases hcases hj with ⟨rfl, rfl⟩ | ⟨-, hj⟩
    · exact ⟨hk0, hpoint0.trans (normalise8_of_sameRgb hsame0')⟩
    · exact h.point j k hj
  · obtain ⟨j, hj⟩ := h.used k (hbcount ▸ hk)
    exact ⟨j, hnew hj⟩
  · rcases hcases hj with ⟨rfl, rfl⟩ | ⟨-, hj⟩
    · obtain ⟨j', hlt, hj'⟩ := h.ordered j0 l k hj0 hkl
      exact ⟨j', hlt.trans hj0lt, hnew hj'⟩
    · obtain ⟨j', hlt, hj'⟩ := h.ordered j l k hj hkl
      exact ⟨j', hlt, hnew hj'⟩
  · obtain ⟨j, js, hfilter, hsum⟩ := h.weight k (hbcount ▸ hk)
    by_cases heq : k = k0
    · subst heq
      refine ⟨j, js ++ [i], ?_, by rw [hweight, if_pos rfl, hsum, List.foldl_append]; rfl⟩
      rw [← List.cons_append, ← hfilter]
      refine filter_insert_last pairwise_slots (mem_slots i) (fun l hl => (h.of_remap (of_decide_eq_true hl)).1) fun l => ?_
      rw [decide_eq_true_eq, decide_eq_true_eq]
      refine ⟨fun hl => ?_, fun hl => ?_⟩
      · rcases hcases hl with ⟨heq, -⟩ | ⟨-, hl⟩
        · exact .inr heq
        · exact .inl hl
      · rcases hl with hl | rfl
        · exact hnew hl
        · rw [hremap, if_pos rfl]
    · refine ⟨j, js, ?_, by rw [hweight, if_neg heq, hsum]⟩
      rw [← hfilter]
      refine List.filter_congr fun l _ => decide_eq_decide.mpr ⟨fun hl => ?_, hnew⟩
      rcases hcases hl with ⟨-, hk'⟩ | ⟨-, hl⟩
      · exact absurd hk' heq
      · exact hl

/-! ### The loop and the file it leaves -/

/-- One slot of the builder. -/
theorem BuiltBelow.slot {i : Fin 16} {a : BuildAcc} (h : BuiltBelow T m f i.val a) :
    BuiltBelow T m f (i.val + 1) (buildSlot T m f a i) := by
  unfold buildSlot
  cases hvalid : slotValid m i with
  | false =>
    rw [Bool.not_false, if_pos rfl]
    exact h.skip (by rw [inPointSet, hvalid, Bool.false_and]) a.transparent (by simp [hvalid])
  | true =>
    rw [Bool.not_true, if_neg Bool.false_ne_true]
    cases hbit : (isBC1 f && decide ((texelA T[i]).toNat < 128)) with
    | true =>
      rw [if_pos rfl]
      rw [Bool.and_eq_true, decide_eq_true_eq] at hbit
      exact h.skip (by rw [inPointSet, hbit.1, decide_eq_true hbit.2, Bool.and_self, Bool.not_true, Bool.and_false]) true
        ⟨fun _ => .inr ⟨hbit.1, hvalid, hbit.2⟩, fun _ => rfl⟩
    | false =>
      rw [if_neg Bool.false_ne_true]
      have hin : inPointSet T m f i = true := by rw [inPointSet, hvalid, hbit]; rfl
      cases hmerge : mergeSlot T m (isBC1 f) i with
      | none => exact h.addPoint hin fun j hj => mergeSlot_eq_none hmerge hj
      | some j0 =>
        obtain ⟨hlt, hj0in, hsame⟩ := mergeSlot_eq_some hmerge
        dsimp only
        cases hj0 : a.remap[j0] with
        | none => exact absurd (((h.invalid j0 hlt).mp hj0).symm.trans hj0in) Bool.false_ne_true
        | some k0 => exact h.mergeInto hin hj0 hsame

theorem buildAll_below (T : Vector Word 16) (m : BitVec 16) (f : BitVec 9) : BuiltBelow T m f 16 (buildAll T m f) := by
  have key (n : Nat) (hn : n ≤ 16) : BuiltBelow T m f n ((slots.take n).foldl (buildSlot T m f) BuildAcc.start) := by
    induction n with
    | zero => exact BuiltBelow.start
    | succ n ih =>
      have hlen : n < slots.length := by simpa [slots] using hn
      have hget : slots[n] = ⟨n, by omega⟩ := by simp [slots]
      rw [List.take_succ_eq_append_getElem hlen, List.foldl_append, hget]
      exact BuiltBelow.slot (i := ⟨n, by omega⟩) (ih (by omega))
  exact key 16 (Nat.le_refl 16)

/-- Settles O26. The file is the loop's result with the weights rooted. -/
theorem psBuildDeduplicates : Obligations.PsBuildDeduplicates := by
  intro s
  obtain ⟨ps, hps⟩ : ∃ ps, ps = buildPointSet s.texel s.mask (normalise s.cfg) := ⟨_, rfl⟩
  obtain ⟨hvalid, hcfg, hcount, -, -, hunused⟩ := buildPointSet_bounds s.texel s.mask (normalise s.cfg) ps hps
  have hbuilt := buildAll_below s.texel s.mask (normalise s.cfg)
  obtain ⟨a, ha⟩ : ∃ a, a = buildAll s.texel s.mask (normalise s.cfg) := ⟨_, rfl⟩
  rw [← ha] at hbuilt
  have hfinish : ps = a.finish (normalise s.cfg) := by rw [hps, ha]; rfl
  have hremap : ps.remap = a.remap := by rw [hfinish]; rfl
  have hcount' : ps.count = a.count := by rw [hfinish]; rfl
  have hpoint (k : Fin 16) (hk : k.val < a.count) : ps.point[k] = a.point[k] := by
    rw [hfinish, BuildAcc.finish, Fin.getElem_fin, Vector.getElem_ofFn]
    exact if_pos hk
  have hweight (k : Fin 16) (hk : k.val < a.count) : ps.weight[k] = (a.weight[k]).sqrt := by
    rw [hfinish, BuildAcc.finish, Fin.getElem_fin, Vector.getElem_ofFn]
    exact if_pos hk
  have hrun : (commandRun .psBuild s).complete.ps = ps := hps.symm
  refine ⟨_, exec_of_not_due rfl, rfl, ?_⟩
  rw [hrun, hremap, hcount']
  refine ⟨hvalid, hcfg, hcount' ▸ hcount, ?_, fun i => hbuilt.invalid i i.isLt, fun i j hi hj => ?_, fun i k hik => ?_,
    hbuilt.used, hbuilt.ordered, fun k hk => ?_, fun k hk => hunused k (hcount' ▸ hk)⟩
  · have htransparent : ps.transparent = a.transparent := by rw [hfinish]; rfl
    rw [htransparent, hbuilt.transparent]
    exact ⟨fun ⟨hf, i, _, hrest⟩ => ⟨hf, i, hrest⟩, fun ⟨hf, i, hrest⟩ => ⟨hf, i, i.isLt, hrest⟩⟩
  · rw [← sameRgb_iff]
    cases hik : a.remap[i] with
    | none => exact absurd (((hbuilt.invalid i i.isLt).mp hik).symm.trans hi) Bool.false_ne_true
    | some k =>
      rw [eq_comm, hbuilt.shared i j k hik]
      exact ⟨fun ⟨_, _, hs⟩ => hs, fun hs => ⟨j.isLt, hj, hs⟩⟩
  · obtain ⟨hlt, heq⟩ := hbuilt.point i k hik
    exact ⟨hlt, (hpoint k hlt).trans heq⟩
  · obtain ⟨i, is, hfilter, hsum⟩ := hbuilt.weight k hk
    exact ⟨i, is, hfilter, by rw [hweight k hk, hsum]⟩

end Sys2Proof.Machine
end

section
/-! PROOFS. The single-colour tables (`44_fit_single.md` R301) and the decoded error of the single-colour fit (R312). -/

namespace Sys2Proof

/-! ### The generator's loop (R301) -/

/-- The loop of R301 leaves a candidate, or what it started from, of least error. -/
theorem scfScan_spec (l : List (Nat × Nat × Nat)) (best : Nat × Nat × Nat) :
    (scfScan l best).1 ≤ best.1 ∧ (∀ c ∈ l, (scfScan l best).1 ≤ c.1) ∧ (scfScan l best = best ∨ scfScan l best ∈ l) := by
  induction l generalizing best with
  | nil => exact ⟨Nat.le_refl _, by simp, .inl rfl⟩
  | cons c l ih =>
    unfold scfScan
    split
    · next hlt =>
      obtain ⟨hbest, hleast, hheld⟩ := ih c
      refine ⟨hbest.trans hlt.le, fun d hd => ?_, .inr ?_⟩
      · rcases List.mem_cons.mp hd with rfl | hd
        · exact hbest
        · exact hleast d hd
      · rcases hheld with h | h
        · rw [h]
          exact List.mem_cons_self
        · exact List.mem_cons_of_mem c h
    · next hge =>
      obtain ⟨hbest, hleast, hheld⟩ := ih best
      refine ⟨hbest, fun d hd => ?_, hheld.imp_right (List.mem_cons_of_mem c)⟩
      rcases List.mem_cons.mp hd with rfl | hd
      · exact hbest.trans (Nat.le_of_not_lt hge)
      · exact hleast d hd

theorem absDiff_le {x y : Nat} (hx : x ≤ 255) (hy : y ≤ 255) : absDiff x y ≤ 255 := by
  unfold absDiff
  omega

theorem scfExpand_le {d : ChannelDepth} {p : Nat} (hp : p < 2 ^ d.bits) : scfExpand d p ≤ 255 := by
  have hfive : ∀ p < 32, scfExpand .five p ≤ 255 := by decide
  have hsix : ∀ p < 64, scfExpand .six p ≤ 255 := by decide
  cases d with
  | five => exact hfive p hp
  | six => exact hsix p hp

theorem scfInterp_le {d : ChannelDepth} (z : CodebookSize) {p q : Nat} (hp : p < 2 ^ d.bits) (hq : q < 2 ^ d.bits) :
    scfInterp z d p q ≤ 255 := by
  have := scfExpand_le hp
  have := scfExpand_le hq
  cases z <;> simp only [scfInterp] <;> omega

/-- Equal endpoints interpolate to themselves. -/
theorem scfInterp_self (z : CodebookSize) (d : ChannelDepth) (p : Nat) : scfInterp z d p p = scfExpand d p := by
  cases z <;> simp only [scfInterp] <;> omega

/-- R301 for a list of candidates with errors up to 255: the source triple is one of them, of least error. -/
theorem scfSourceOf_scan {l : List (Nat × Nat × Nat)} (hne : l ≠ []) (hl : ∀ c ∈ l, c.1 ≤ 255 ∧ c.2.1 < 64 ∧ c.2.2 < 64) :
    ∃ c ∈ l, (scfSourceOf (scfScan l (256, 0, 0))).start.toNat = c.2.1 ∧
      (scfSourceOf (scfScan l (256, 0, 0))).stop.toNat = c.2.2 ∧
      (scfSourceOf (scfScan l (256, 0, 0))).error.toNat = c.1 ∧ ∀ d ∈ l, c.1 ≤ d.1 := by
  obtain ⟨-, hleast, hheld⟩ := scfScan_spec l (256, 0, 0)
  obtain ⟨d, hd⟩ := List.exists_mem_of_ne_nil l hne
  have hmem : scfScan l (256, 0, 0) ∈ l := by
    rcases hheld with h | h
    · have := hleast d hd
      have := (hl d hd).1
      rw [h] at *
      omega
    · exact h
  obtain ⟨herr, hstart, hstop⟩ := hl _ hmem
  refine ⟨_, hmem, ?_, ?_, ?_, hleast⟩ <;> simp only [scfSourceOf, BitVec.toNat_ofNat] <;> omega

theorem two_pow_bits_le (d : ChannelDepth) : 0 < 2 ^ d.bits ∧ 2 ^ d.bits ≤ 64 := by cases d <;> decide

/-- `src[0]` of a table entry: equal endpoints of least error. -/
theorem scfBest0_spec (d : ChannelDepth) (t : Byte) : ∃ p, p < 2 ^ d.bits ∧
    (scfSourceOf (scfBest0 d t.toNat)).start.toNat = p ∧ (scfSourceOf (scfBest0 d t.toNat)).stop.toNat = p ∧
    (scfSourceOf (scfBest0 d t.toNat)).error.toNat = absDiff (scfExpand d p) t.toNat ∧
    ∀ q, q < 2 ^ d.bits → absDiff (scfExpand d p) t.toNat ≤ absDiff (scfExpand d q) t.toNat := by
  obtain ⟨hpos, hle⟩ := two_pow_bits_le d
  obtain ⟨c, hc, hstart, hstop, herr, hleast⟩ :=
    scfSourceOf_scan (l := (List.range (2 ^ d.bits)).map fun p => (absDiff (scfExpand d p) t.toNat, p, p))
      (by simp) (by
        intro c hc
        obtain ⟨p, hp, rfl⟩ := List.mem_map.mp hc
        have hp := List.mem_range.mp hp
        exact ⟨absDiff_le (scfExpand_le hp) (Nat.le_of_lt_succ t.isLt), hp.trans_le hle, hp.trans_le hle⟩)
  obtain ⟨p, hp, rfl⟩ := List.mem_map.mp hc
  exact ⟨p, List.mem_range.mp hp, hstart, hstop, herr, fun q hq =>
    hleast _ (List.mem_map.mpr ⟨q, List.mem_range.mpr hq, rfl⟩)⟩

/-- `src[1]` of a table entry: endpoints of least error of the interpolated value. -/
theorem scfBest1_spec (d : ChannelDepth) (z : CodebookSize) (t : Byte) : ∃ p q, p < 2 ^ d.bits ∧ q < 2 ^ d.bits ∧
    (scfSourceOf (scfBest1 d z t.toNat)).start.toNat = p ∧ (scfSourceOf (scfBest1 d z t.toNat)).stop.toNat = q ∧
    (scfSourceOf (scfBest1 d z t.toNat)).error.toNat = absDiff (scfInterp z d p q) t.toNat ∧
    ∀ p' q', p' < 2 ^ d.bits → q' < 2 ^ d.bits →
      absDiff (scfInterp z d p q) t.toNat ≤ absDiff (scfInterp z d p' q') t.toNat := by
  obtain ⟨hpos, hle⟩ := two_pow_bits_le d
  have hmem {c : Nat × Nat × Nat} : c ∈ (List.range (2 ^ d.bits)).flatMap (fun p => scfRow d z t.toNat p) ↔
      ∃ p q, p < 2 ^ d.bits ∧ q < 2 ^ d.bits ∧ c = (absDiff (scfInterp z d p q) t.toNat, p, q) := by
    simp only [List.mem_flatMap, scfRow, List.mem_map, List.mem_range]
    exact ⟨fun ⟨p, hp, q, hq, h⟩ => ⟨p, q, hp, hq, h.symm⟩, fun ⟨p, q, hp, hq, h⟩ => ⟨p, hp, q, hq, h.symm⟩⟩
  obtain ⟨c, hc, hstart, hstop, herr, hleast⟩ :=
    scfSourceOf_scan (l := (List.range (2 ^ d.bits)).flatMap fun p => scfRow d z t.toNat p)
      (List.ne_nil_of_mem (hmem.mpr ⟨0, 0, hpos, hpos, rfl⟩)) (by
        intro c hc
        obtain ⟨p, q, hp, hq, rfl⟩ := hmem.mp hc
        exact ⟨absDiff_le (scfInterp_le z hp hq) (Nat.le_of_lt_succ t.isLt), hp.trans_le hle, hq.trans_le hle⟩)
  obtain ⟨p, q, hp, hq, rfl⟩ := hmem.mp hc
  exact ⟨p, q, hp, hq, hstart, hstop, herr, fun p' q' hp' hq' => hleast _ (hmem.mpr ⟨p', q', hp', hq', rfl⟩)⟩

/-- The bound on a channel's error (R301). -/
def scfBound : ChannelDepth → Nat
  | .five => 4
  | .six => 2

/-- Some field of the depth is that close to every 8-bit value. -/
theorem scfExpand_near (d : ChannelDepth) (t : Byte) : ∃ p, p < 2 ^ d.bits ∧ absDiff (scfExpand d p) t.toNat ≤ scfBound d := by
  have hfive : ∀ t < 256, ∃ p < 32, absDiff (scfExpand .five p) t ≤ 4 := by decide +kernel
  have hsix : ∀ t < 256, ∃ p < 64, absDiff (scfExpand .six p) t ≤ 2 := by decide +kernel
  cases d with
  | five => exact hfive t.toNat t.isLt
  | six => exact hsix t.toNat t.isLt

namespace Machine

/-- Settles O38. Each source is the best candidate of its loop, and equal endpoints near the value bound both errors. -/
theorem scfTableMinimal : Obligations.ScfTableMinimal := by
  intro d z t
  obtain ⟨p, hp, hstart, hstop, herr, hleast⟩ := scfBest0_spec d t
  obtain ⟨p1, q1, hp1, hq1, hstart1, hstop1, herr1, hleast1⟩ := scfBest1_spec d z t
  obtain ⟨n, hn, hnear⟩ := scfExpand_near d t
  have hself := hleast1 n n hn hn
  rw [scfInterp_self] at hself
  dsimp only [scfLutDefault]
  rw [hstart, hstart1, hstop1, herr, herr1]
  exact ⟨BitVec.eq_of_toNat_eq (hstart.trans hstop.symm), hp, rfl, hleast, hp1, hq1, rfl, hleast1, (hleast n hn).trans hnear,
    hself.trans hnear⟩

/-! ### Table fields through the packer (R110, R303, R304, R330, R342) -/

/-- The fields of a packed colour. -/
theorem toNat_pack565 {r g b : Nat} (hr : r < 32) (hg : g < 64) (hb : b < 32) :
    (pack565 r g b).toNat = r * 2048 + g * 32 + b := by
  have hlow : (g <<< 5) ||| b = g * 32 + b := by
    rw [← Nat.shiftLeft_add_eq_or_of_lt (by simpa using hb), Nat.shiftLeft_eq]
  have hall : (r <<< 11) ||| (g * 32 + b) = r * 2048 + (g * 32 + b) := by
    rw [← Nat.shiftLeft_add_eq_or_of_lt (by norm_num; omega), Nat.shiftLeft_eq]
  rw [pack565, BitVec.toNat_ofNat, Nat.or_assoc, hlow, hall]
  omega

theorem scfExpand_five (p : Nat) (hp : p < 32) : scfExpand .five p = p * 8 + p / 4 := by
  have : ∀ p < 32, scfExpand .five p = p * 8 + p / 4 := by decide
  exact this p hp

theorem scfExpand_six (p : Nat) (hp : p < 64) : scfExpand .six p = p * 4 + p / 16 := by
  have : ∀ p < 64, scfExpand .six p = p * 4 + p / 16 := by decide
  exact this p hp

/-- R342 of a packed colour: each field expanded as R301 expands it. -/
theorem unpack565_pack565 {r g b : Nat} (hr : r < 32) (hg : g < 64) (hb : b < 32) :
    (unpack565 (pack565 r g b)).r.toNat = scfExpand .five r ∧ (unpack565 (pack565 r g b)).g.toNat = scfExpand .six g ∧
    (unpack565 (pack565 r g b)).b.toNat = scfExpand .five b := by
  have hword := toNat_pack565 hr hg hb
  rw [scfExpand_five r hr, scfExpand_six g hg, scfExpand_five b hb]
  refine ⟨?_, ?_, ?_⟩ <;>
    simp only [unpack565, toNat_append_add, BitVec.extractLsb'_toNat, hword, Nat.shiftRight_eq_div_pow] <;> omega

/-- The quantiser recovers the table fields from the lanes `ComputeEndPoints` writes. -/
theorem floatToInt_gridLane_five : ∀ k : BitVec 6, k.toNat < 32 → floatToInt (f31.mul (gridLane k f31)) 31 = k.toNat := by
  decide +kernel

theorem floatToInt_gridLane_six : ∀ k : BitVec 6, floatToInt (f63.mul (gridLane k f63)) 63 = k.toNat := by
  decide +kernel

/-- `SingleColour` recovers the bytes of a normalised colour. -/
theorem singleChannel_ofNat_div : ∀ c : Byte, singleChannel ((F32.ofNat c.toNat).div f255) = c := by
  decide +kernel

theorem singleColour_normalise8 (t : Word) : singleColour (normalise8 t) = ⟨texelR t, texelG t, texelB t⟩ := by
  simp only [singleColour, normalise8, singleChannel_ofNat_div]

theorem floatTo565_gridLanes {r g b : BitVec 6} (hr : r.toNat < 32) (hb : b.toNat < 32) :
    floatTo565 ⟨gridLane r f31, gridLane g f63, gridLane b f31⟩ = pack565 r.toNat g.toNat b.toNat := by
  rw [floatTo565, floatToInt_gridLane_five r hr, floatToInt_gridLane_six g, floatToInt_gridLane_five b hb]

/-! ### The decoded error of a single-colour result (R304, R312) -/

/-- The colour a decoder gives the slots of a single-colour candidate: the first endpoint for index 0, the blend for index 2. -/
def singleDecoded (z : CodebookSize) (r : SingleResult) : Rgba :=
  match z with
  | .three => midpointCode (unpack565 (floatTo565 r.start)) (unpack565 (floatTo565 r.stop)) r.index
  | .four => thirdsCode (unpack565 (floatTo565 r.start)) (unpack565 (floatTo565 r.stop)) r.index

theorem sqDiff_eq_absDiff (x y : Nat) : sqDiff x y = absDiff y x ^ 2 := by
  unfold sqDiff absDiff
  rcases Nat.le_total x y with h | h
  · obtain ⟨d, rfl⟩ := Nat.exists_eq_add_of_le h
    have hdiff : ((x : Int) - (x + d : Nat)) * (x - (x + d : Nat)) = ((d * d : Nat) : Int) := by push_cast; ring
    rw [hdiff, Int.toNat_natCast]
    have : x + d - x + (x - (x + d)) = d := by omega
    rw [this, sq]
  · obtain ⟨d, rfl⟩ := Nat.exists_eq_add_of_le h
    have hdiff : (((y + d : Nat) : Int) - y) * ((y + d : Nat) - y) = ((d * d : Nat) : Int) := by push_cast; ring
    rw [hdiff, Int.toNat_natCast]
    have : y - (y + d) + (y + d - y) = d := by omega
    rw [this, sq]

/-- What the decoder makes of one channel of a blend. -/
theorem toNat_blend_scf (z : CodebookSize) (d : ChannelDepth) {c e : Byte} {p q : Nat} (hc : c.toNat = scfExpand d p)
    (he : e.toNat = scfExpand d q) :
    (BitVec.ofNat 8 (match z with | .three => (c.toNat + e.toNat) / 2 | .four => (2 * c.toNat + e.toNat) / 3)).toNat =
      scfInterp z d p q := by
  obtain ⟨h2, h3, -⟩ := toNat_blend c e
  cases z with
  | three => exact h2.trans (by rw [hc, he]; rfl)
  | four => exact h3.trans (by rw [hc, he]; rfl)

/-- The channels of a packed triple of table fields, decoded. -/
theorem unpack565_gridLanes {r g b : BitVec 6} (hr : r.toNat < 32) (hb : b.toNat < 32) :
    let c := unpack565 (floatTo565 ⟨gridLane r f31, gridLane g f63, gridLane b f31⟩)
    c.r.toNat = scfExpand .five r.toNat ∧ c.g.toNat = scfExpand .six g.toNat ∧ c.b.toNat = scfExpand .five b.toNat := by
  rw [floatTo565_gridLanes hr hb]
  exact unpack565_pack565 hr g.isLt hb

/-- A 4-colour codebook of equal endpoints holds their one colour. -/
theorem thirdsCode_self (w : BitVec 16) (j : BitVec 2) : thirdsCode (unpack565 w) (unpack565 w) j = unpack565 w := by
  have hthird (c : Byte) : BitVec.ofNat 8 ((2 * c.toNat + c.toNat) / 3) = c ∧
      BitVec.ofNat 8 ((c.toNat + 2 * c.toNat) / 3) = c := by
    have h : (2 * c.toNat + c.toNat) / 3 = c.toNat ∧ (c.toNat + 2 * c.toNat) / 3 = c.toNat := by omega
    rw [h.1, h.2, BitVec.ofNat_toNat, BitVec.setWidth_eq]
    exact ⟨rfl, rfl⟩
  have halpha : (unpack565 w).a = 255#8 := rfl
  rcases bitVec2_cases j with rfl | rfl | rfl | rfl
  · rfl
  · rfl
  · calc thirdsCode (unpack565 w) (unpack565 w) 2#2
        = ⟨BitVec.ofNat 8 ((2 * (unpack565 w).r.toNat + (unpack565 w).r.toNat) / 3),
           BitVec.ofNat 8 ((2 * (unpack565 w).g.toNat + (unpack565 w).g.toNat) / 3),
           BitVec.ofNat 8 ((2 * (unpack565 w).b.toNat + (unpack565 w).b.toNat) / 3), 255#8⟩ := rfl
      _ = unpack565 w := by rw [(hthird _).1, (hthird _).1, (hthird _).1, ← halpha]
  · calc thirdsCode (unpack565 w) (unpack565 w) 3#2
        = ⟨BitVec.ofNat 8 (((unpack565 w).r.toNat + 2 * (unpack565 w).r.toNat) / 3),
           BitVec.ofNat 8 (((unpack565 w).g.toNat + 2 * (unpack565 w).g.toNat) / 3),
           BitVec.ofNat 8 (((unpack565 w).b.toNat + 2 * (unpack565 w).b.toNat) / 3), 255#8⟩ := rfl
      _ = unpack565 w := by rw [(hthird _).2, (hthird _).2, (hthird _).2, ← halpha]

/-- What the two selectors of R304 decode to. -/
theorem singleDecoded_first (z : CodebookSize) {r g b : ScfSource} (hr : r.start.toNat < 32) (hb : b.start.toNat < 32) :
    let c := singleDecoded z (singleCandidate r g b 0#2)
    c.r.toNat = scfExpand .five r.start.toNat ∧ c.g.toNat = scfExpand .six g.start.toNat ∧
    c.b.toNat = scfExpand .five b.start.toNat := by
  cases z <;> exact unpack565_gridLanes (g := g.start) hr hb

theorem singleDecoded_blend (z : CodebookSize) {r g b : ScfSource} (hr : r.start.toNat < 32 ∧ r.stop.toNat < 32)
    (hb : b.start.toNat < 32 ∧ b.stop.toNat < 32) :
    let c := singleDecoded z (singleCandidate r g b 2#2)
    c.r.toNat = scfInterp z .five r.start.toNat r.stop.toNat ∧ c.g.toNat = scfInterp z .six g.start.toNat g.stop.toNat ∧
    c.b.toNat = scfInterp z .five b.start.toNat b.stop.toNat := by
  obtain ⟨hr0, hg0, hb0⟩ := unpack565_gridLanes (g := g.start) hr.1 hb.1
  obtain ⟨hr1, hg1, hb1⟩ := unpack565_gridLanes (g := g.stop) hr.2 hb.2
  have hred := toNat_blend_scf z .five hr0 hr1
  have hgreen := toNat_blend_scf z .six hg0 hg1
  have hblue := toNat_blend_scf z .five hb0 hb1
  cases z <;> exact ⟨hred, hgreen, hblue⟩

/-- Channel errors of at most 4, 2 and 4 keep the squared error within the bound of R312. -/
theorem sq_errors_le {r g b : Nat} (hr : r ≤ 4) (hg : g ≤ 2) (hb : b ≤ 4) : r ^ 2 + g ^ 2 + b ^ 2 ≤ 48 := by
  have := Nat.pow_le_pow_left hr 2
  have := Nat.pow_le_pow_left hg 2
  have := Nat.pow_le_pow_left hb 2
  omega

/-- A single-colour result over the default tables: its error is the squared error of its decoded colour, within the
bound of R312. -/
theorem computeEndPoints_decoded (z : CodebookSize) (col : SingleColour) (w : SingleResult)
    (hw : w = computeEndPoints Config.params z col) :
    sqDiff col.r.toNat (singleDecoded z w).r.toNat + sqDiff col.g.toNat (singleDecoded z w).g.toNat +
      sqDiff col.b.toNat (singleDecoded z w).b.toNat = w.err ∧ w.err ≤ 48 := by
  obtain ⟨-, hr, hre, -, hr0, hr1, hri, -, hrb, hrb1⟩ := scfTableMinimal .five z col.r
  obtain ⟨-, hg, hge, -, hg0, hg1, hgi, -, hgb, hgb1⟩ := scfTableMinimal .six z col.g
  obtain ⟨-, hb, hbe, -, hb0, hb1, hbi, -, hbb, hbb1⟩ := scfTableMinimal .five z col.b
  have hlut : Config.params.lut = scfLutDefault := rfl
  simp only [computeEndPoints, hlut] at hw
  simp only [sqDiff_eq_absDiff]
  split at hw
  · obtain ⟨h1, h2, h3⟩ := singleDecoded_blend z (g := (scfLutDefault .six z col.g).src1) ⟨hr0, hr1⟩ ⟨hb0, hb1⟩
    subst hw
    rw [h1, h2, h3, ← hri, ← hgi, ← hbi]
    exact ⟨rfl, sq_errors_le hrb1 hgb1 hbb1⟩
  · obtain ⟨h1, h2, h3⟩ := singleDecoded_first z (g := (scfLutDefault .six z col.g).src0) hr hb
    subst hw
    rw [h1, h2, h3, ← hre, ← hge, ← hbe]
    exact ⟨rfl, sq_errors_le hrb hgb hbb⟩

/-- A slot that carries a single-colour result's index decodes to the result's colour, in either mode. -/
theorem decodeColour_single3 (mode : ColourMode) (w : SingleResult) {idx : Vector (BitVec 2) 16} {i : Fin 16}
    (hidx : idx[i] = w.index) :
    (decodeColour mode (writeColourBlock3 w.start w.stop idx) true)[i] = singleDecoded .three w :=
  (decodeColour_packBlock3 ..).trans (by rw [hidx]; rfl)

theorem decodeColour_single4 (mode : ColourMode) (dxt1 : Bool) (w : SingleResult) {idx : Vector (BitVec 2) 16} {i : Fin 16}
    (hidx : idx[i] = w.index) :
    (decodeColour mode (writeColourBlock4 w.start w.stop idx) dxt1)[i] = singleDecoded .four w := by
  refine (decodeColour_packBlock4 ..).trans ?_
  rw [hidx]
  split
  · next heq => rw [singleDecoded, ← heq, thirdsCode_self]
  · rfl

/-- The texels COLOUR_DEC leaves are the decoded colour half. -/
theorem colourDec_texel_eq (s : State) {bc1 : Bool} {bytes : Vector Byte 8} (hbc1 : isBC1 (normalise s.cfg) = bc1)
    (hbytes : s.blockHalf (!bc1) = bytes) (i : Fin 16) :
    (commandRun .colourDec s).complete.texel[i] = texelOf (decodeColour Config.bc23ColourMode bytes bc1)[i] := by
  subst hbc1 hbytes
  simp [commandRun, Config.params, colourHigh]

/-- Settles O39. The set's one point is the colour of every slot of the set, and such a slot decodes by the result's index. -/
theorem singleColourDecodedError : Obligations.SingleColourDecodedError := by
  intro s s1 h1 hcount
  obtain ⟨t, ht, hframe, hvalid, hcfg, -, -, hnone, -, hsome, -⟩ := psBuildDeduplicates s
  obtain rfl : t = s1 := Host.Outcome.next.inj (ht.symm.trans h1)
  have hscfg : t.cfg = s.cfg := by rw [hframe]
  have hzero : ∀ i k : Fin 16, t.ps.remap[i] = some k → k = 0 := fun i k h => Fin.ext (by
    have := (hsome i k h).1
    omega)
  obtain ⟨three, hthree⟩ : ∃ x, x = (isBC1 t.ps.cfg && (t.ps.transparent ||
    decide ((computeEndPoints Config.params .three (singleColour t.ps.point[0])).err ≤
      (computeEndPoints Config.params .four (singleColour t.ps.point[0])).err))) := ⟨_, rfl⟩
  obtain ⟨w, hw⟩ : ∃ x, x = if three then computeEndPoints Config.params .three (singleColour t.ps.point[0])
    else computeEndPoints Config.params .four (singleColour t.ps.point[0]) := ⟨_, rfl⟩
  obtain ⟨idx, hidx⟩ : ∃ x, x = Vector.ofFn fun i => if t.ps.remap[i] = none then 3#2 else w.index := ⟨_, rfl⟩
  obtain ⟨herr, hle⟩ := computeEndPoints_decoded (if three then .three else .four) (singleColour t.ps.point[0]) w
    (by rw [hw]; cases three <;> rfl)
  obtain ⟨bytes, hbytes⟩ : ∃ x, x =
    if three then writeColourBlock3 w.start w.stop idx else writeColourBlock4 w.start w.stop idx := ⟨_, rfl⟩
  have hfit := fitSingleResult t _ _ _ _ _ hvalid hcount hzero rfl rfl hthree hw hidx
  rw [← hbytes] at hfit
  obtain ⟨s2, hfit, hs2cfg, hs2half, hs2valid, hs2best⟩ : ∃ s2, exec .fitSingle t = .next s2 ∧ s2.cfg = t.cfg ∧
      s2.blockHalf (!isBC1 t.ps.cfg) = bytes ∧ s2.fit.valid = true ∧ s2.besterrI = BitVec.ofNat 32 w.err :=
    ⟨_, hfit, t.writeBlockHalf_cfg (!isBC1 t.ps.cfg) bytes, (blockHalf_congr rfl _).trans (blockHalf_writeBlockHalf_same ..),
      rfl, rfl⟩
  have hbest : (BitVec.ofNat 32 w.err).toNat = w.err := by
    rw [BitVec.toNat_ofNat]
    omega
  refine ⟨s2, _, hfit, exec_of_not_due rfl, hs2valid, (congrArg _ hs2best).trans hbest |>.trans_le hle, fun i hi => ?_⟩
  have hbc1 : isBC1 (normalise s2.cfg) = isBC1 t.ps.cfg := by rw [hs2cfg, hscfg, hcfg]
  rw [colourDec_texel_eq s2 hbc1 hs2half]
  have hin : t.ps.remap[i] ≠ none := fun h => by
    rw [(hnone i).mp h] at hi
    exact Bool.noConfusion hi
  obtain ⟨k, hk⟩ := Option.ne_none_iff_exists'.mp hin
  obtain rfl := hzero i k hk
  have hcolour : singleColour t.ps.point[0] = ⟨texelR s.texel[i], texelG s.texel[i], texelB s.texel[i]⟩ := by
    rw [← singleColour_normalise8, ← (hsome i 0 hk).2]
    rfl
  have hcode : idx[i] = w.index := by
    rw [hidx, Fin.getElem_fin, Vector.getElem_ofFn]
    exact if_neg hin
  have hdecoded : (decodeColour Config.bc23ColourMode bytes (isBC1 t.ps.cfg))[i] =
      singleDecoded (if three then .three else .four) w := by
    rw [hbytes]
    cases hthree' : three with
    | true =>
      have hone : isBC1 t.ps.cfg = true := by
        rw [hthree'] at hthree
        exact (Bool.and_eq_true_iff.mp hthree.symm).1
      rw [hone]
      exact decodeColour_single3 _ w hcode
    | false => exact decodeColour_single4 _ _ w hcode
  rw [hcolour] at herr
  rw [hdecoded, rgbError, texelR_texelOf, texelG_texelOf, texelB_texelOf]
  exact herr.trans (hbest.symm.trans (congrArg _ hs2best.symm))

end Machine
end Sys2Proof
end

section
/-! PROOFS. Rounding to nearest even (`00_scope.md` R15, `40_vector_math.md` R150): the field `F32.round` chooses is the nearest
one to the exact magnitude, also when that magnitude is known only up to a sticky bit. -/

namespace Sys2Proof

/-! ### Nearest on a grid of values, ties to the even number -/

/-- Grid point `k` of the increasing grid `U` is the nearest to `v`: `v` lies between the midpoints with the neighbours of `k`, and
on one of them only if `k` is even. -/
structure NearestAt (U : ℤ → ℤ) (v : ℚ) (k : ℤ) : Prop where
  lower : (U (k - 1) + U k : ℚ) ≤ 2 * v
  upper : 2 * v ≤ (U k + U (k + 1) : ℚ)
  lower_tie : (U (k - 1) + U k : ℚ) = 2 * v → k % 2 = 0
  upper_tie : 2 * v = (U k + U (k + 1) : ℚ) → k % 2 = 0

namespace NearestAt

variable {U : ℤ → ℤ} {v : ℚ} {k : ℤ}

/-- What `v` is not above, or not below, is on that side of the midpoint; only the other midpoint has to be compared. -/
theorem of_sides (hU : StrictMono U)
    (hlower : (U k : ℚ) ≤ v ∨ (U (k - 1) + U k : ℚ) ≤ 2 * v ∧ ((U (k - 1) + U k : ℚ) = 2 * v → k % 2 = 0))
    (hupper : v ≤ U k ∨ 2 * v ≤ (U k + U (k + 1) : ℚ) ∧ (2 * v = (U k + U (k + 1) : ℚ) → k % 2 = 0)) :
    NearestAt U v k := by
  have hbelow : (U (k - 1) : ℚ) < U k := Int.cast_lt.mpr (hU (sub_one_lt k))
  have habove : (U k : ℚ) < U (k + 1) := Int.cast_lt.mpr (hU (lt_add_one k))
  refine ⟨?_, ?_, fun htie => ?_, fun htie => ?_⟩
  · rcases hlower with h | h <;> linarith
  · rcases hupper with h | h <;> linarith
  · exact hlower.elim (fun h => by linarith) fun h => h.2 htie
  · exact hupper.elim (fun h => by linarith) fun h => h.2 htie

/-- A natural number rounds to itself among the integers. -/
theorem natCast (n : Nat) : NearestAt id (n : ℚ) n :=
  of_sides strictMono_id (.inl (by simp)) (.inl (by simp))

/-- An odd grid is symmetric. -/
theorem neg (hodd : ∀ j, U (-j) = -U j) (h : NearestAt U v k) : NearestAt U (-v) (-k) := by
  have hbelow : U (-k - 1) = -U (k + 1) := by rw [← hodd]; congr 1; ring
  have habove : U (-k + 1) = -U (k - 1) := by rw [← hodd]; congr 1; ring
  obtain ⟨hlower, hupper, hlower_tie, hupper_tie⟩ := h
  constructor <;> rw [hodd] <;> simp only [hbelow, habove, Int.cast_neg]
  · linarith
  · linarith
  · intro htie
    have := hupper_tie (by linarith)
    omega
  · intro htie
    have := hlower_tie (by linarith)
    omega

/-- No grid point is nearer, and an equally near one is `k` itself unless `k` is even. -/
theorem abs_sub_le (hU : StrictMono U) (h : NearestAt U v k) (j : ℤ) :
    |v - U k| ≤ |v - U j| ∧ (|v - U k| = |v - U j| → j = k ∨ k % 2 = 0) := by
  obtain ⟨hlower, hupper, hlower_tie, hupper_tie⟩ := h
  rcases lt_trichotomy j k with hlt | rfl | hgt
  · have hle : (U j : ℚ) ≤ U (k - 1) := Int.cast_le.mpr (hU.monotone (Int.le_sub_one_of_lt hlt))
    have hstep : (U j : ℚ) < U k := Int.cast_lt.mpr (hU hlt)
    rw [abs_of_pos (a := v - U j) (by linarith)]
    refine ⟨abs_le.mpr ⟨by linarith, by linarith⟩, fun htie => .inr (hlower_tie ?_)⟩
    rcases abs_eq (a := v - U k) (b := v - U j) (by linarith) |>.mp htie with h' | h' <;> linarith
  · exact ⟨le_refl _, fun _ => .inl rfl⟩
  · have hle : (U (k + 1) : ℚ) ≤ U j := Int.cast_le.mpr (hU.monotone (Int.add_one_le_of_lt hgt))
    have hstep : (U k : ℚ) < U j := Int.cast_lt.mpr (hU hgt)
    rw [abs_of_neg (a := v - U j) (by linarith)]
    refine ⟨abs_le.mpr ⟨by linarith, by linarith⟩, fun htie => .inr (hupper_tie ?_)⟩
    rcases abs_eq (a := v - U k) (b := -(v - U j)) (by linarith) |>.mp htie with h' | h' <;> linarith

end NearestAt

/-! ### A magnitude with a sticky bit -/

/-- `y` is `m`, or `m` is odd and stands for a value strictly between its even neighbours (the sticky bit of a quotient or a
root), with at least two bits below the rounding point. -/
def StandsFor (m : Nat) (y : ℚ) : Prop :=
  y = m ∨ (m % 2 = 1 ∧ 2 ^ 25 ≤ m ∧ (m : ℚ) - 1 < y ∧ y < m + 1)

theorem standsFor_self (m : Nat) : StandsFor m m := .inl rfl

/-- A bound on `m` is a bound on what it stands for, if it is even. -/
theorem StandsFor.ge_of_le {m a : Nat} {y : ℚ} (h : StandsFor m y) (ha : y = m ∨ a % 2 = 0) (hle : a ≤ m) :
    (a : ℚ) ≤ y ∧ ((a : ℚ) = y → a = m) := by
  by_cases hexact : y = m
  · subst hexact
    exact ⟨by exact_mod_cast hle, fun h => by exact_mod_cast h⟩
  · obtain ⟨hodd, -, hlower, -⟩ := h.resolve_left hexact
    have heven := ha.resolve_left hexact
    have hlt : (a : ℚ) + 1 ≤ m := by exact_mod_cast (show a + 1 ≤ m by omega)
    exact ⟨by linarith, fun h => by linarith⟩

theorem StandsFor.le_of_le {m a : Nat} {y : ℚ} (h : StandsFor m y) (ha : y = m ∨ a % 2 = 0) (hle : m ≤ a) :
    y ≤ a ∧ (y = a → m = a) := by
  by_cases hexact : y = m
  · subst hexact
    exact ⟨by exact_mod_cast hle, fun h => by exact_mod_cast h⟩
  · obtain ⟨hodd, -, -, hupper⟩ := h.resolve_left hexact
    have heven := ha.resolve_left hexact
    have hlt : (m : ℚ) + 1 ≤ a := by exact_mod_cast (show m + 1 ≤ a by omega)
    exact ⟨by linarith, fun h => by linarith⟩

theorem StandsFor.nonneg {m : Nat} {y : ℚ} (h : StandsFor m y) : 0 ≤ y := by
  rcases h with rfl | ⟨-, hm, hlower, -⟩
  · exact Nat.cast_nonneg m
  · have : (1 : ℚ) ≤ m := by exact_mod_cast (show 1 ≤ m by omega)
    linarith

/-! ### The rounding of the mantissa -/

/-- `roundShift` in units of half the quantum: the midpoints about it, and their ties. -/
theorem roundShift_midpoints (m k : Nat) :
    2 * roundShift m (k + 1) * 2 ^ k ≤ m + 2 ^ k ∧ m ≤ (2 * roundShift m (k + 1) + 1) * 2 ^ k ∧
    (2 * roundShift m (k + 1) * 2 ^ k = m + 2 ^ k → roundShift m (k + 1) % 2 = 0) ∧
    (m = (2 * roundShift m (k + 1) + 1) * 2 ^ k → roundShift m (k + 1) % 2 = 0) := by
  have hpos : 0 < 2 ^ k := by positivity
  have hhalf : 1 <<< (k + 1 - 1) = 2 ^ k := by rw [Nat.add_sub_cancel, Nat.one_shiftLeft]
  have hquot : m >>> (k + 1) = m / (2 ^ k * 2) := by rw [Nat.shiftRight_eq_div_pow, pow_succ]
  have hback : (m / (2 ^ k * 2)) <<< (k + 1) = 2 * (m / (2 ^ k * 2) * 2 ^ k) := by
    rw [Nat.shiftLeft_eq, pow_succ]
    ring
  have hdiv := Nat.div_add_mod m (2 ^ k * 2)
  have hmod := Nat.mod_lt m (show 0 < 2 ^ k * 2 by omega)
  have hsplit : 2 ^ k * 2 * (m / (2 ^ k * 2)) = 2 * (m / (2 ^ k * 2) * 2 ^ k) := by ring
  simp only [roundShift, hhalf, hquot, hback]
  generalize m % (2 ^ k * 2) = r at hdiv hmod
  generalize m / (2 ^ k * 2) = h at hdiv hsplit ⊢
  generalize 2 ^ k = a at *
  have hdown : 2 * h * a = 2 * (h * a) ∧ (2 * h + 1) * a = 2 * (h * a) + a := ⟨by ring, by ring⟩
  have hup : 2 * (h + 1) * a = 2 * (h * a) + 2 * a ∧ (2 * (h + 1) + 1) * a = 2 * (h * a) + 3 * a := ⟨by ring, by ring⟩
  generalize h * a = c at *
  split
  · next hcond =>
    simp only [Bool.or_eq_true, Bool.and_eq_true, decide_eq_true_eq, beq_iff_eq] at hcond
    rw [hup.1, hup.2]
    omega
  · next hcond =>
    simp only [Bool.or_eq_true, Bool.and_eq_true, decide_eq_true_eq, beq_iff_eq, not_or, not_and] at hcond
    rw [hdown.1, hdown.2]
    omega

/-- `roundShift` rounds to nearest even what its operand stands for. -/
theorem roundShift_nearestAt {m k : Nat} {y : ℚ} (h : StandsFor m y) (hk : y = m ∨ 1 ≤ k) :
    NearestAt id (y / 2 ^ (k + 1)) (roundShift m (k + 1)) := by
  obtain ⟨hlower, hupper, hlower_tie, hupper_tie⟩ := roundShift_midpoints m k
  have heven : y = m ∨ 2 ^ k % 2 = 0 := hk.imp_right fun hk => by
    obtain ⟨j, rfl⟩ := Nat.exists_eq_add_of_le' hk
    rw [pow_succ]
    omega
  have hscale (b : Nat) (hb : 2 ^ k % 2 = 0) : b * 2 ^ k % 2 = 0 := by rw [Nat.mul_mod, hb, Nat.mul_zero, Nat.zero_mod]
  have hpos : (0 : ℚ) < 2 ^ k := by positivity
  have hv : 2 * (y / 2 ^ (k + 1)) = y / 2 ^ k := by
    rw [pow_succ]
    field_simp
  generalize roundShift m (k + 1) = n at *
  obtain ⟨habove, habove_tie⟩ := h.le_of_le (heven.imp_right (hscale _)) hupper
  push_cast at habove habove_tie
  have hupper' : y / 2 ^ k ≤ n + (n + 1) := by
    rw [div_le_iff₀ hpos]
    linarith
  have hupper_tie' : y / 2 ^ k = n + (n + 1) → n % 2 = 0 := fun htie => by
    rw [div_eq_iff hpos.ne'] at htie
    exact hupper_tie (habove_tie (by linarith))
  have hlower' : (n - 1 + n : ℚ) ≤ y / 2 ^ k ∧ ((n - 1 + n : ℚ) = y / 2 ^ k → n % 2 = 0) := by
    rcases n.eq_zero_or_pos with rfl | hn
    · have : 0 ≤ y / 2 ^ k := div_nonneg h.nonneg hpos.le
      exact ⟨by push_cast; linarith, fun _ => rfl⟩
    · obtain ⟨n, rfl⟩ : ∃ j, n = j + 1 := ⟨n - 1, by omega⟩
      have hmid : 2 * (n + 1) * 2 ^ k = (2 * n + 1) * 2 ^ k + 2 ^ k := by ring
      obtain ⟨hbelow, hbelow_tie⟩ := h.ge_of_le (a := (2 * n + 1) * 2 ^ k) (heven.imp_right (hscale _)) (by omega)
      push_cast at hbelow hbelow_tie ⊢
      rw [le_div_iff₀ hpos, eq_div_iff hpos.ne']
      exact ⟨by linarith, fun htie => hlower_tie (by rw [hmid, hbelow_tie (by linarith)])⟩
  constructor <;> simp only [id, hv] <;> push_cast
  · exact hlower'.1
  · exact hupper'
  · intro htie
    have := hlower'.2 htie
    omega
  · intro htie
    have := hupper_tie' htie
    omega

/-! ### The field of a rounded magnitude -/

/-- A mantissa of up to `2^24`, normalised if the exponent is not the least, in units of the smallest subnormal: also where it
carries into the next binade. -/
theorem F32.unitsOfField_scaled {d n : Nat} (hle : n ≤ 2 ^ 24) (hge : d = 0 ∨ 2 ^ 23 ≤ n) :
    F32.unitsOfField (d * 0x800000 + n) = n * 2 ^ d := by
  unfold F32.unitsOfField
  rcases Nat.lt_or_ge n 0x800000 with hsub | hnorm
  · obtain rfl : d = 0 := hge.resolve_right (by omega)
    rw [if_pos (by omega), pow_zero, mul_one]
    omega
  · rcases hle.lt_or_eq with hlt | rfl
    · have hdiv : (d * 0x800000 + n) / 0x800000 = d + 1 := by omega
      have hmod : (d * 0x800000 + n) % 0x800000 = n - 0x800000 := by omega
      rw [hdiv, hmod, if_neg (Nat.succ_ne_zero d), Nat.add_sub_cancel, Nat.sub_add_cancel hnorm]
    · have hdiv : (d * 0x800000 + 2 ^ 24) / 0x800000 = d + 2 := by omega
      have hmod : (d * 0x800000 + 2 ^ 24) % 0x800000 = 0 := by omega
      rw [hdiv, hmod, if_neg (Nat.succ_ne_zero _), Nat.add_succ_sub_one, pow_succ]
      ring

/-- A magnitude whose mantissa rounds to `n` has the field of `n`: the neighbours of the field are the neighbours of the mantissa,
but below a power of two, where the magnitude is not below the field's own value. -/
theorem F32.nearestAt_field {d n : Nat} {x : ℚ} (hx : NearestAt id x n) (hnonneg : 0 ≤ x) (hlt : x < 2 ^ 24)
    (hge : d = 0 ∨ 2 ^ 23 ≤ x) : NearestAt F32.unitsOfKey (x * 2 ^ d) ((d * 0x800000 + n : Nat) : ℤ) := by
  have hpos : (0 : ℚ) < 2 ^ d := by positivity
  obtain ⟨hlower, hupper, hlower_tie, hupper_tie⟩ := hx
  simp only [id] at hlower hupper hlower_tie hupper_tie
  push_cast at hlower hupper hlower_tie hupper_tie
  have hn : n ≤ 2 ^ 24 := by
    have : (n : ℚ) < 2 ^ 24 + 1 := by linarith
    exact Nat.le_of_lt_succ (by exact_mod_cast this)
  have hn' : d = 0 ∨ 2 ^ 23 ≤ n := hge.imp_right fun hge => by
    have : (2 ^ 23 : ℚ) < n + 1 := by linarith
    exact Nat.le_of_lt_succ (by exact_mod_cast this)
  have hfield (j : Nat) (hj : j ≤ 2 ^ 24) (hj' : d = 0 ∨ 2 ^ 23 ≤ j) (k : ℤ) (hk : k = ((d * 0x800000 + j : Nat) : ℤ)) :
      (F32.unitsOfKey k : ℚ) = j * 2 ^ d := by
    rw [hk, F32.unitsOfKey_natCast, F32.unitsOfField_scaled hj hj']
    push_cast
    rfl
  have hself := hfield n hn hn' _ rfl
  have hparity : ((d * 0x800000 + n : Nat) : ℤ) % 2 = 0 ↔ n % 2 = 0 := by omega
  refine NearestAt.of_sides F32.unitsOfKey_strictMono ?lower ?upper
  case lower =>
    rcases le_or_gt (n : ℚ) x with hle | hgt
    · exact .inl (hself ▸ mul_le_mul_of_nonneg_right hle hpos.le)
    · obtain ⟨j, rfl⟩ : ∃ j, n = j + 1 := Nat.exists_eq_succ_of_ne_zero (by
        rintro rfl
        exact absurd hgt (not_lt.mpr (by exact_mod_cast hnonneg)))
      have hj : d = 0 ∨ 2 ^ 23 ≤ j := hge.imp_right fun hge => by
        have : ((2 ^ 23 : Nat) : ℚ) < (j + 1 : Nat) := by push_cast at hgt ⊢; linarith
        exact Nat.le_of_lt_succ (Nat.cast_lt.mp this)
      rw [hself, hfield j (by omega) hj _ (by push_cast; ring), hparity]
      push_cast at hlower hlower_tie ⊢
      have hmid : (j : ℚ) * 2 ^ d + (j + 1) * 2 ^ d = (j + 1 - 1 + (j + 1)) * 2 ^ d := by ring
      rw [hmid, ← mul_assoc]
      refine .inr ⟨mul_le_mul_of_nonneg_right hlower hpos.le, fun htie => ?_⟩
      have := hlower_tie (mul_right_cancel₀ hpos.ne' htie)
      omega
  case upper =>
    rcases le_or_gt x (n : ℚ) with hle | hgt
    · exact .inl (hself ▸ mul_le_mul_of_nonneg_right hle hpos.le)
    · have hj : n + 1 ≤ 2 ^ 24 := by
        have : (n : ℚ) < (2 ^ 24 : Nat) := by push_cast; linarith
        exact Nat.cast_lt.mp this
      rw [hself, hfield (n + 1) hj (hn'.imp_right Nat.le_succ_of_le) _ (by push_cast; ring), hparity]
      push_cast
      have hmid : (n : ℚ) * 2 ^ d + (n + 1) * 2 ^ d = (n + (n + 1)) * 2 ^ d := by ring
      rw [hmid, ← mul_assoc]
      refine .inr ⟨mul_le_mul_of_nonneg_right hupper hpos.le, fun htie => ?_⟩
      have := hupper_tie (mul_right_cancel₀ hpos.ne' htie)
      omega

/-- The magnitude field `F32.round` computes. -/
def F32.roundField (m : Nat) (e : Int) : Nat :=
  let t : Int := (Nat.log2 m : Int) + e - 23
  let q : Int := if t < -149 then -149 else t
  (q + 149).toNat * 0x800000 + if q ≤ e then m <<< (e - q).toNat else roundShift m (q - e).toNat

theorem F32.round_of_ne_zero {m : Nat} (hm : m ≠ 0) (neg : Bool) (e : Int) :
    F32.round neg m e =
      if 0x7F800000 ≤ F32.roundField m e then F32.inf neg else F32.ofSignMag neg (F32.roundField m e) :=
  if_neg hm

theorem StandsFor.log2_bounds {m : Nat} {y : ℚ} (h : StandsFor m y) (hm : m ≠ 0) :
    (2 : ℚ) ^ m.log2 ≤ y ∧ y < 2 ^ (m.log2 + 1) := by
  have heven (k : Nat) (hk : m.log2 ≤ k) : y = m ∨ 2 ^ k % 2 = 0 := h.imp_right fun ⟨_, hlarge, _⟩ => by
    have := (Nat.le_log2 hm).mpr hlarge
    obtain ⟨j, rfl⟩ : ∃ j, k = j + 1 := ⟨k - 1, by omega⟩
    rw [pow_succ]
    omega
  have hlower := (h.ge_of_le (heven _ le_rfl) (Nat.log2_self_le hm)).1
  have hupper := h.le_of_le (heven _ (Nat.le_succ _)) (Nat.lt_log2_self (n := m)).le
  push_cast at hlower hupper
  exact ⟨hlower, lt_of_le_of_ne hupper.1 fun heq => (Nat.lt_log2_self (n := m)).ne (hupper.2 heq)⟩

/-- The field `F32.round` chooses is the nearest to the magnitude its operands stand for. -/
theorem F32.roundField_nearestAt {m : Nat} {e : Int} {y : ℚ} (hm : m ≠ 0) (h : StandsFor m y) :
    NearestAt F32.unitsOfKey (y * 2 ^ (e + 149)) (F32.roundField m e : ℤ) := by
  obtain ⟨hlow, hhigh⟩ := h.log2_bounds hm
  have hsticky : y = m ∨ 25 ≤ m.log2 := h.imp_right fun ⟨_, hlarge, _⟩ => (Nat.le_log2 hm).mpr hlarge
  unfold F32.roundField
  extract_lets t q
  have hq : -149 ≤ q ∧ t ≤ q ∧ (q = -149 ∨ q = t) := by
    simp only [q]
    split <;> omega
  have ht : t = (m.log2 : ℤ) + e - 23 := rfl
  clear_value q t
  obtain ⟨hq149, htq, hqt⟩ := hq
  have hscaled : y * 2 ^ (e + 149) = y * 2 ^ (e - q) * 2 ^ (q + 149).toNat := by
    rw [← zpow_natCast, Int.toNat_of_nonneg (by omega), mul_assoc, ← zpow_add₀ two_ne_zero]
    congr 2
    ring
  have hscale (a : ℤ) : (0 : ℚ) < 2 ^ a := by positivity
  rw [hscaled]
  refine F32.nearestAt_field ?mantissa (mul_nonneg h.nonneg (hscale _).le) ?below ?normal
  case mantissa =>
    split
    · next hle =>
      have hexact : y = m := hsticky.resolve_right (by omega)
      have hshift : (2 : ℚ) ^ (e - q) = ((2 ^ (e - q).toNat : Nat) : ℚ) := by
        rw [Nat.cast_pow, ← zpow_natCast, Int.toNat_of_nonneg (by omega)]
        rfl
      rw [hexact, hshift, ← Nat.cast_mul, ← Nat.shiftLeft_eq]
      exact NearestAt.natCast _
    · next hgt =>
      obtain ⟨k, hk⟩ : ∃ k, (q - e).toNat = k + 1 := ⟨(q - e).toNat - 1, by omega⟩
      have hshift : (2 : ℚ) ^ (e - q) = (2 ^ (k + 1))⁻¹ := by
        rw [← zpow_natCast, ← zpow_neg]
        congr 1
        omega
      rw [hk, hshift, ← div_eq_mul_inv]
      exact roundShift_nearestAt h (hsticky.imp_right fun _ => by omega)
  case below =>
    calc y * 2 ^ (e - q) < 2 ^ (m.log2 + 1) * 2 ^ (e - q) := mul_lt_mul_of_pos_right hhigh (hscale _)
      _ = 2 ^ ((m.log2 : ℤ) + 1 + (e - q)) := by rw [zpow_add₀ two_ne_zero, ← zpow_natCast]; rfl
      _ ≤ 2 ^ (24 : ℤ) := zpow_le_zpow_right₀ one_le_two (by omega)
      _ = 2 ^ 24 := rfl
  case normal =>
    refine hqt.imp (fun hq => by omega) fun hq => ?_
    calc (2 : ℚ) ^ 23 = 2 ^ ((m.log2 : ℤ) + (e - q)) := by
          rw [hq, ht, show (m.log2 : ℤ) + (e - ((m.log2 : ℤ) + e - 23)) = 23 by ring]
          rfl
      _ = 2 ^ m.log2 * 2 ^ (e - q) := by rw [zpow_add₀ two_ne_zero, zpow_natCast]
      _ ≤ y * 2 ^ (e - q) := mul_le_mul_of_nonneg_right hlow (hscale _).le

/-! ### From fields to patterns -/

theorem F32.getLsbD_thirtyOne (x : F32) : x.bits.getLsbD 31 = decide (0x80000000 ≤ x.bits.toNat) := by
  have := x.bits.isLt
  rw [BitVec.getLsbD, Nat.testBit_eq_decide_div_mod_eq, decide_eq_decide]
  omega

theorem F32.getLsbD_zero (x : F32) : x.bits.getLsbD 0 = false ↔ x.key % 2 = 0 := by
  have hkey := x.key_eq_signed
  have habs := x.natAbs_key
  rw [BitVec.getLsbD, Nat.testBit_eq_decide_div_mod_eq, decide_eq_false_iff_not]
  split at hkey <;> omega

/-- The pattern of a field and a sign. -/
theorem F32.ofSignMag_toNat (neg : Bool) {n : Nat} (hn : n < 0x80000000) :
    (F32.ofSignMag neg n).bits.toNat = if neg then n + 0x80000000 else n := by
  cases neg <;> (simp [F32.ofSignMag]; omega)

theorem F32.key_ofSignMag (neg : Bool) {n : Nat} (hn : n < 0x80000000) :
    (F32.ofSignMag neg n).key = if neg then -(n : ℤ) else n := by
  have htoNat := F32.ofSignMag_toNat neg hn
  simp only [F32.key, htoNat]
  cases neg <;> grind

theorem F32.sign_ofSignMag (neg : Bool) {n : Nat} (hn : n < 0x80000000) :
    (F32.ofSignMag neg n).bits.getLsbD 31 = neg := by
  rw [F32.getLsbD_thirtyOne, F32.ofSignMag_toNat neg hn]
  cases neg
  · simpa using hn
  · simp

/-- What the infinities start at: the midpoint of FLT_MAX and `2^128`, in units of the smallest subnormal. -/
theorem F32.overflow_midpoint :
    (F32.unitsOfKey 0x7F7FFFFF + F32.unitsOfKey 0x7F800000 : ℚ) = 2 * ((2 : ℚ) ^ 128 - 2 ^ 103) * 2 ^ 149 := by
  have hmax : F32.unitsOfKey 0x7F7FFFFF = (2 ^ 24 - 1) * 2 ^ 104 * 2 ^ 149 := by decide +kernel
  have hinf : F32.unitsOfKey 0x7F800000 = 2 ^ 128 * 2 ^ 149 := by decide +kernel
  rw [hmax, hinf]
  push_cast
  norm_num

/-- The sign factor of a value. -/
def signFactor (neg : Bool) : ℚ := if neg then -1 else 1

theorem abs_signFactor_mul (neg : Bool) {v : ℚ} (hv : 0 ≤ v) : |signFactor neg * v| = v := by
  cases neg <;> simp [signFactor, abs_of_nonneg hv]

theorem signFactor_mul_neg_iff (neg : Bool) {v : ℚ} (hv : 0 < v) : signFactor neg * v < 0 ↔ neg = true := by
  cases neg <;> simp [signFactor, hv, hv.le]

/-- The signed pattern of the nearest field is the binary32 value nearest to the signed magnitude. -/
theorem nearestEven_of_nearestAt (neg : Bool) {n : Nat} {v : ℚ} (hv : 0 ≤ v) (h : NearestAt F32.unitsOfKey v n) :
    NearestEven (signFactor neg * (v * 2 ^ (-149 : ℤ)))
      (if 0x7F800000 ≤ n then F32.inf neg else F32.ofSignMag neg n) := by
  have hunit : (0 : ℚ) < 2 ^ (-149 : ℤ) := by positivity
  have hunit' : (2 : ℚ) ^ (-149 : ℤ) * 2 ^ 149 = 1 := by norm_num
  have hcancel : v * 2 ^ (-149 : ℤ) * 2 ^ 149 = v := by rw [mul_assoc, hunit', mul_one]
  have hmid := F32.overflow_midpoint
  have hmono (j k : ℤ) (h : j ≤ k) : (F32.unitsOfKey j : ℚ) ≤ F32.unitsOfKey k :=
    Int.cast_le.mpr (F32.unitsOfKey_strictMono.monotone h)
  rw [NearestEven, abs_signFactor_mul neg (mul_nonneg hv hunit.le)]
  split
  · next hover =>
    have hlarge : (2 : ℚ) ^ 128 - 2 ^ 103 ≤ v * 2 ^ (-149 : ℤ) := by
      have := h.lower
      have := hmono 0x7F7FFFFF ((n : ℤ) - 1) (by omega)
      have := hmono 0x7F800000 n (by omega)
      refine le_of_mul_le_mul_right ?_ (show (0 : ℚ) < 2 ^ 149 by positivity)
      linarith
    refine ⟨fun hlt => absurd hlt (not_lt.mpr hlarge), fun _ => ?_⟩
    have hpos : 0 < v * 2 ^ (-149 : ℤ) := lt_of_lt_of_le (by norm_num) hlarge
    simp only [signFactor_mul_neg_iff neg hpos, Bool.decide_eq_true]
  · next hrange =>
    have hkey := F32.key_ofSignMag neg (n := n) (by omega)
    have hfinite : (F32.ofSignMag neg n).isFinite = true := by
      rw [F32.isFinite_iff, hkey]
      cases neg <;> simp <;> omega
    refine ⟨fun _ => ⟨hfinite, fun z hz => ?nearest⟩, fun hlarge => ?overflow⟩
    case nearest =>
      have hsigned : NearestAt F32.unitsOfKey (signFactor neg * v) (F32.ofSignMag neg n).key := by
        rw [hkey]
        cases neg
        · simpa [signFactor] using h
        · simpa [signFactor] using h.neg F32.unitsOfKey_neg
      obtain ⟨hnear, htie⟩ := hsigned.abs_sub_le F32.unitsOfKey_strictMono z.key
      have hscaled (k : ℤ) : |signFactor neg * (v * 2 ^ (-149 : ℤ)) - F32.unitsOfKey k * 2 ^ (-149 : ℤ)| =
          |signFactor neg * v - F32.unitsOfKey k| * 2 ^ (-149 : ℤ) := by
        rw [← mul_assoc, ← sub_mul, abs_mul, abs_of_pos hunit]
      rw [F32.value_eq_unitsOfKey hfinite, F32.value_eq_unitsOfKey hz, hscaled, hscaled]
      refine ⟨mul_le_mul_of_nonneg_right hnear hunit.le, fun heq => ?_⟩
      exact (htie (mul_right_cancel₀ hunit.ne' heq)).imp (fun hk => by rw [hk]) (F32.getLsbD_zero _).mpr
    case overflow =>
      have hlarge' : (F32.unitsOfKey 0x7F7FFFFF + F32.unitsOfKey 0x7F800000 : ℚ) ≤ 2 * v := by
        have := mul_le_mul_of_nonneg_right hlarge (show (0 : ℚ) ≤ 2 ^ 149 by positivity)
        linarith
      have hupper := h.upper
      have hnext := hmono ((n : ℤ) + 1) 0x7F800000 (by omega)
      have hself := hmono n 0x7F7FFFFF (by omega)
      have hlast : (n : ℤ) = 0x7F7FFFFF := by
        by_contra hne
        have : (F32.unitsOfKey n : ℚ) < F32.unitsOfKey 0x7F7FFFFF :=
          Int.cast_lt.mpr (F32.unitsOfKey_strictMono (by omega))
        linarith
      have := h.upper_tie (by linarith)
      omega

/-- The rounding of an exact magnitude, or of one known up to a sticky bit, is the nearest binary32 value (R15). -/
theorem F32.round_nearestEven (neg : Bool) {m : Nat} (e : Int) {y : ℚ} (h : StandsFor m y) :
    NearestEven (signFactor neg * (y * 2 ^ e)) (F32.round neg m e) := by
  by_cases hm : m = 0
  · subst hm
    have hy : y = 0 := h.elim (fun h => by simpa using h) fun ⟨hodd, _⟩ => by omega
    have hunits : F32.unitsOfKey 0 = 0 := rfl
    have hzero : NearestAt F32.unitsOfKey 0 (0 : Nat) :=
      NearestAt.of_sides F32.unitsOfKey_strictMono (.inl (by simp [hunits])) (.inl (by simp [hunits]))
    have hround : F32.round neg 0 e = if 0x7F800000 ≤ 0 then F32.inf neg else F32.ofSignMag neg 0 :=
      (if_pos rfl).trans (if_neg (by omega)).symm
    rw [hround, hy, zero_mul, ← zero_mul ((2 : ℚ) ^ (-149 : ℤ))]
    exact nearestEven_of_nearestAt neg le_rfl hzero
  · have hfield := F32.roundField_nearestAt (e := e) hm h
    have hunits : y * 2 ^ e = y * 2 ^ (e + 149) * 2 ^ (-149 : ℤ) := by
      rw [mul_assoc, ← zpow_add₀ two_ne_zero]
      congr 2
      ring
    rw [F32.round_of_ne_zero hm, hunits]
    exact nearestEven_of_nearestAt neg (mul_nonneg h.nonneg (by positivity)) hfield

/-- The sign of a rounded magnitude is the sign given. -/
theorem F32.sign_round (neg : Bool) (m : Nat) (e : Int) : (F32.round neg m e).bits.getLsbD 31 = neg := by
  by_cases hm : m = 0
  · subst hm
    exact F32.sign_ofSignMag neg (by omega)
  · rw [F32.round_of_ne_zero hm]
    split
    · exact F32.sign_ofSignMag neg (by omega)
    · exact F32.sign_ofSignMag neg (by omega)

end Sys2Proof
end

section
/-! PROOFS. The scalar operations (`00_scope.md` R15, R21, `40_vector_math.md` R150): each rounds its exact result once, and its
answers for zeros, infinities and NaNs. -/

namespace Sys2Proof

/-! ### What a finite operand denotes -/

/-- A finite pattern: its sign bit, an integer mantissa below `2^24` and an exponent from `-149`. -/
theorem F32.unpack_of_isFinite {x : F32} (hx : x.isFinite = true) : ∃ (m : Nat) (e : Int),
    x.unpack = .fin (x.bits.getLsbD 31) m e ∧ x.value = signFactor (x.bits.getLsbD 31) * (m * 2 ^ e) ∧
    (x.isZero = true ↔ m = 0) ∧ m < 2 ^ 24 ∧ -149 ≤ e ∧ e ≤ 104 := by
  have hbits := x.bits.isLt
  have hfin : ∃ (m : Nat) (e : Int), x.unpack = .fin (x.bits.getLsbD 31) m e ∧ m < 2 ^ 24 ∧ -149 ≤ e ∧ e ≤ 104 := by
    rw [F32.getLsbD_thirtyOne]
    unfold F32.isFinite at hx
    simp only [F32.unpack] at hx ⊢
    split_ifs at hx ⊢
    · exact ⟨_, _, rfl, by omega, le_rfl, by omega⟩
    · exact ⟨_, _, rfl, by omega, by omega, by omega⟩
  obtain ⟨m, e, hunpack, hm, he⟩ := hfin
  refine ⟨m, e, hunpack, ?_, ?_, hm, he⟩
  · simp only [F32.value, hunpack, signFactor, mul_assoc]
  · simp [F32.isZero, hunpack]

theorem signFactor_xor (a b : Bool) : signFactor (a ^^ b) = signFactor a * signFactor b := by
  cases a <;> cases b <;> simp [signFactor]

theorem signFactor_div (a b : Bool) : signFactor a / signFactor b = signFactor (a ^^ b) := by
  cases a <;> cases b <;> simp [signFactor]

theorem cast_signedInt (neg : Bool) (m : Nat) : (signedInt neg m : ℚ) = signFactor neg * m := by
  cases neg <;> simp [signedInt, signFactor]

@[simp] theorem F32.unpack_inf (a : Bool) : (F32.inf a).unpack = .inf a := by cases a <;> rfl

@[simp] theorem F32.unpack_nan : F32.nan.unpack = .nan := rfl

@[simp] theorem F32.isNaN_nan : F32.nan.isNaN = true := rfl

/-! ### Products -/

theorem F32.mul_finite {x y : F32} (hx : x.isFinite = true) (hy : y.isFinite = true) :
    NearestEven (x.value * y.value) (x.mul y) ∧ (x.mul y).bits.getLsbD 31 = (x.bits.getLsbD 31 ^^ y.bits.getLsbD 31) := by
  obtain ⟨m, e, hux, hvx, -⟩ := F32.unpack_of_isFinite hx
  obtain ⟨n, f, huy, hvy, -⟩ := F32.unpack_of_isFinite hy
  have hmul : x.mul y = F32.round (x.bits.getLsbD 31 ^^ y.bits.getLsbD 31) (m * n) (e + f) := by
    simp only [F32.mul, hux, huy]
  have hvalue : x.value * y.value = signFactor (x.bits.getLsbD 31 ^^ y.bits.getLsbD 31) * (((m * n : Nat) : ℚ) * 2 ^ (e + f)) := by
    rw [hvx, hvy, signFactor_xor, zpow_add₀ two_ne_zero]
    push_cast
    ring
  rw [hmul, hvalue]
  exact ⟨F32.round_nearestEven _ _ (standsFor_self _), F32.sign_round ..⟩

/-! ### Sums and differences -/

/-- A sum is the rounding of an integer multiple of the smaller unit of its operands. -/
theorem F32.add_finite {x y : F32} (hx : x.isFinite = true) (hy : y.isFinite = true) :
    NearestEven (x.value + y.value) (x.add y) ∧
    (x.value + y.value = 0 → x.add y = F32.signedZero (x.bits.getLsbD 31 && y.bits.getLsbD 31)) := by
  obtain ⟨m, e, hux, hvx, -⟩ := F32.unpack_of_isFinite hx
  obtain ⟨n, f, huy, hvy, -⟩ := F32.unpack_of_isFinite hy
  obtain ⟨q, hq⟩ : ∃ q, q = if e ≤ f then e else f := ⟨_, rfl⟩
  obtain ⟨t, ht⟩ : ∃ t, t = signedInt (x.bits.getLsbD 31) (m <<< (e - q).toNat) +
    signedInt (y.bits.getLsbD 31) (n <<< (f - q).toNat) := ⟨_, rfl⟩
  have hadd : x.add y = if t = 0 then F32.signedZero (x.bits.getLsbD 31 && y.bits.getLsbD 31)
      else F32.round (decide (t < 0)) t.natAbs q := by
    simp only [F32.add, hux, huy, ← hq, ← ht]
  have hscale (k : Nat) (g : ℤ) (hg : q ≤ g) : ((k <<< (g - q).toNat : Nat) : ℚ) * 2 ^ q = k * 2 ^ g := by
    rw [Nat.shiftLeft_eq, Nat.cast_mul, Nat.cast_pow, ← zpow_natCast, Int.toNat_of_nonneg (by omega), mul_assoc, Nat.cast_ofNat,
      ← zpow_add₀ two_ne_zero]
    congr 2
    ring
  have hqe : q ≤ e ∧ q ≤ f := by
    rw [hq]
    split <;> omega
  have hsum : x.value + y.value = t * 2 ^ q := by
    rw [ht, Int.cast_add, cast_signedInt, cast_signedInt, add_mul, mul_assoc, mul_assoc, hscale m e hqe.1, hscale n f hqe.2,
      hvx, hvy]
  have hpow : (2 : ℚ) ^ q ≠ 0 := by positivity
  rw [hsum, hadd]
  split
  · next hzero =>
    subst hzero
    have hround := F32.round_nearestEven (x.bits.getLsbD 31 && y.bits.getLsbD 31) 0 (standsFor_self 0)
    simp only [Nat.cast_zero, zero_mul, mul_zero] at hround
    rw [Int.cast_zero, zero_mul]
    exact ⟨hround, fun _ => rfl⟩
  · next hne =>
    have habs : (t : ℚ) = signFactor (decide (t < 0)) * (t.natAbs : ℚ) := by
      rw [Nat.cast_natAbs, Int.cast_abs]
      rcases lt_or_ge t 0 with hneg | hpos
      · have : (t : ℚ) < 0 := by exact_mod_cast hneg
        rw [decide_eq_true hneg, abs_of_neg this]
        simp [signFactor]
      · have : (0 : ℚ) ≤ t := by exact_mod_cast hpos
        rw [decide_eq_false (not_lt.mpr hpos), abs_of_nonneg this]
        simp [signFactor]
    refine ⟨?_, fun h => absurd (by simpa [hpow] using h) hne⟩
    have hround := F32.round_nearestEven (decide (t < 0)) q (standsFor_self t.natAbs)
    rwa [← mul_assoc, ← habs] at hround

/-! ### Negation flips the sign and nothing else -/

theorem F32.sign_neg (x : F32) : x.neg.bits.getLsbD 31 = !x.bits.getLsbD 31 := by
  simp [F32.neg]

theorem F32.natAbs_key_neg (x : F32) : x.neg.key.natAbs = x.key.natAbs := by
  have hmag : (x.neg.bits.setWidth 31) = x.bits.setWidth 31 := by
    rw [F32.neg, BitVec.setWidth_xor]
    exact BitVec.xor_zero
  have htoNat := congrArg BitVec.toNat hmag
  rw [BitVec.toNat_setWidth, BitVec.toNat_setWidth] at htoNat
  rw [F32.natAbs_key, F32.natAbs_key]
  exact htoNat

theorem F32.key_neg (x : F32) : x.neg.key = -x.key := by
  have hsign := x.sign_neg
  rw [F32.getLsbD_thirtyOne, F32.getLsbD_thirtyOne, ← decide_not, decide_eq_decide] at hsign
  have habs := x.natAbs_key_neg
  have hneg := x.neg.key_eq_signed
  have hkey := x.key_eq_signed
  split at hneg <;> split at hkey <;> grind

theorem F32.isFinite_neg {x : F32} (hx : x.isFinite = true) : x.neg.isFinite = true := by
  rwa [F32.isFinite_iff, F32.natAbs_key_neg, ← F32.isFinite_iff]

theorem F32.isNaN_neg {x : F32} (hx : x.isNaN = true) : x.neg.isNaN = true := by
  rwa [F32.isNaN_iff, F32.natAbs_key_neg, ← F32.isNaN_iff]

theorem F32.value_neg {x : F32} (hx : x.isFinite = true) : x.neg.value = -x.value := by
  rw [F32.value_eq_unitsOfKey hx, F32.value_eq_unitsOfKey (F32.isFinite_neg hx), F32.key_neg, F32.unitsOfKey_neg]
  push_cast
  ring

theorem F32.neg_inf (a : Bool) : (F32.inf a).neg = F32.inf (!a) := by cases a <;> rfl

/-- A difference is the sum with the negated operand. -/
theorem F32.sub_finite {x y : F32} (hx : x.isFinite = true) (hy : y.isFinite = true) :
    NearestEven (x.value - y.value) (x.sub y) ∧
    (x.value - y.value = 0 → x.sub y = F32.signedZero (x.bits.getLsbD 31 && !y.bits.getLsbD 31)) := by
  have hadd := F32.add_finite hx (F32.isFinite_neg hy)
  rwa [F32.value_neg hy, ← sub_eq_add_neg, F32.sign_neg] at hadd

/-! ### Quotients -/

/-- An integer quotient with its sticky bit stands for twice the exact quotient. -/
theorem standsFor_quotient {t n : Nat} (hn : n ≠ 0) (hlarge : t % n ≠ 0 → 2 ^ 24 * n ≤ t) :
    StandsFor (2 * (t / n) + if t % n = 0 then 0 else 1) (2 * ((t : ℚ) / n)) := by
  have hpos : (0 : ℚ) < n := by exact_mod_cast Nat.pos_of_ne_zero hn
  have hdiv : (t : ℚ) = n * (t / n : Nat) + (t % n : Nat) := by exact_mod_cast (Nat.div_add_mod t n).symm
  have hquot : (t : ℚ) / n = (t / n : Nat) + (t % n : Nat) / n := by
    rw [eq_comm, ← mul_left_inj' hpos.ne', div_mul_cancel₀ _ hpos.ne', add_mul, div_mul_cancel₀ _ hpos.ne', hdiv]
    ring
  split
  · next hzero =>
    left
    rw [hquot, hzero]
    push_cast
    ring
  · next hne =>
    right
    have hlow : (0 : ℚ) < (t % n : Nat) / n := div_pos (by exact_mod_cast Nat.pos_of_ne_zero hne) hpos
    have hhigh : ((t % n : Nat) : ℚ) / n < 1 :=
      (div_lt_one hpos).mpr (by exact_mod_cast Nat.mod_lt t (Nat.pos_of_ne_zero hn))
    have hq : 2 ^ 24 ≤ t / n := (Nat.le_div_iff_mul_le (Nat.pos_of_ne_zero hn)).mpr (hlarge hne)
    rw [hquot]
    push_cast
    exact ⟨by omega, by omega, by linarith, by linarith⟩

theorem F32.div_finite {x y : F32} (hx : x.isFinite = true) (hy : y.isFinite = true) (hzero : y.isZero = false) :
    NearestEven (x.value / y.value) (x.div y) ∧ (x.div y).bits.getLsbD 31 = (x.bits.getLsbD 31 ^^ y.bits.getLsbD 31) := by
  obtain ⟨m, e, hux, hvx, -⟩ := F32.unpack_of_isFinite hx
  obtain ⟨n, f, huy, hvy, hn, hlt, -⟩ := F32.unpack_of_isFinite hy
  have hn : n ≠ 0 := fun h => by rw [hn.mpr h] at hzero; exact Bool.noConfusion hzero
  have hdiv : x.div y = F32.round (x.bits.getLsbD 31 ^^ y.bits.getLsbD 31)
      (2 * (m <<< 50 / n) + if m <<< 50 % n = 0 then 0 else 1) (e - f - 51) := by
    simp only [F32.div, hux, huy, if_neg hn]
  have hstands : StandsFor (2 * (m <<< 50 / n) + if m <<< 50 % n = 0 then 0 else 1) (2 * (((m <<< 50 : Nat) : ℚ) / n)) :=
    standsFor_quotient hn fun hmod => by
      have hm : m ≠ 0 := by
        rintro rfl
        simp at hmod
      rw [Nat.shiftLeft_eq]
      calc 2 ^ 24 * n ≤ 2 ^ 24 * 2 ^ 24 := Nat.mul_le_mul_left _ hlt.le
        _ ≤ 1 * 2 ^ 50 := by norm_num
        _ ≤ m * 2 ^ 50 := Nat.mul_le_mul_right _ (Nat.pos_of_ne_zero hm)
  have hvalue : x.value / y.value =
      signFactor (x.bits.getLsbD 31 ^^ y.bits.getLsbD 31) * (2 * (((m <<< 50 : Nat) : ℚ) / n) * 2 ^ (e - f - 51)) := by
    have hpow : (2 : ℚ) * 2 ^ 50 * 2 ^ (e - f - 51) = 2 ^ e / 2 ^ f := by
      rw [← zpow_sub₀ two_ne_zero, ← pow_succ', ← zpow_natCast, ← zpow_add₀ two_ne_zero]
      congr 1
      push_cast
      ring
    rw [hvx, hvy, mul_div_mul_comm, signFactor_div, Nat.shiftLeft_eq]
    congr 1
    push_cast
    rw [mul_div_mul_comm, ← hpow]
    ring
  rw [hdiv, hvalue]
  exact ⟨F32.round_nearestEven _ _ hstands, F32.sign_round ..⟩

/-! ### Exact results -/

/-- Every integer below `2^24` times a power of two in range is the value of a finite pattern of either sign. -/
theorem F32.exists_unitsOfField {a j : Nat} (ha : a < 2 ^ 24) (hj : j ≤ 253) :
    ∃ n, n < 0x7F800000 ∧ F32.unitsOfField n = a * 2 ^ j := by
  induction j generalizing a with
  | zero => exact ⟨0 * 0x800000 + a, by omega, F32.unitsOfField_scaled ha.le (.inl rfl)⟩
  | succ j ih =>
    rcases Nat.lt_or_ge a (2 ^ 23) with hsmall | hnorm
    · obtain ⟨n, hn, hunits⟩ := ih (a := 2 * a) (by omega) (by omega)
      refine ⟨n, hn, hunits.trans ?_⟩
      rw [pow_succ]
      ring
    · exact ⟨(j + 1) * 0x800000 + a, by omega, F32.unitsOfField_scaled ha.le (.inr hnorm)⟩

theorem F32.exists_value (neg : Bool) {a : Nat} {e : ℤ} (ha : a < 2 ^ 24) (he : -149 ≤ e) (he' : e ≤ 104) :
    ∃ z : F32, z.isFinite = true ∧ z.value = signFactor neg * (a * 2 ^ e) ∧ z.bits.getLsbD 31 = neg := by
  obtain ⟨n, hn, hunits⟩ := F32.exists_unitsOfField (j := (e + 149).toNat) ha (by omega)
  have hkey := F32.key_ofSignMag neg (n := n) (by omega)
  have hfinite : (F32.ofSignMag neg n).isFinite = true := by
    rw [F32.isFinite_iff, hkey]
    cases neg <;> simp <;> omega
  refine ⟨_, hfinite, ?_, F32.sign_ofSignMag neg (by omega)⟩
  have hscaled : (F32.unitsOfField n : ℚ) * 2 ^ (-149 : ℤ) = a * 2 ^ e := by
    rw [hunits, Nat.cast_mul, Nat.cast_pow, ← zpow_natCast, Int.toNat_of_nonneg (by omega), mul_assoc, Nat.cast_ofNat,
      ← zpow_add₀ two_ne_zero]
    congr 2
    ring
  rw [F32.value_eq_unitsOfKey hfinite, hkey, ← hscaled]
  cases neg <;> simp [signFactor]

/-- No finite value reaches the midpoint from which results overflow. -/
theorem F32.abs_value_lt {z : F32} (hz : z.isFinite = true) : |z.value| < (2 : ℚ) ^ 128 - 2 ^ 103 := by
  have hkey := F32.isFinite_iff.mp hz
  have hmid := F32.overflow_midpoint
  have hmono (j k : ℤ) (h : j ≤ k) : (F32.unitsOfKey j : ℚ) ≤ F32.unitsOfKey k :=
    Int.cast_le.mpr (F32.unitsOfKey_strictMono.monotone h)
  have hstep : (F32.unitsOfKey 0x7F7FFFFF : ℚ) < F32.unitsOfKey 0x7F800000 :=
    Int.cast_lt.mpr (F32.unitsOfKey_strictMono (by omega))
  have hupper := hmono z.key 0x7F7FFFFF (by omega)
  have hlower := hmono (-0x7F7FFFFF) z.key (by omega)
  rw [F32.unitsOfKey_neg, Int.cast_neg] at hlower
  have habs : |(F32.unitsOfKey z.key : ℚ)| < ((2 : ℚ) ^ 128 - 2 ^ 103) * 2 ^ 149 :=
    abs_lt.mpr ⟨by linarith, by linarith⟩
  have hunit' : (2 : ℚ) ^ (-149 : ℤ) * 2 ^ 149 = 1 := by norm_num
  rw [F32.value_eq_unitsOfKey hz, abs_mul, abs_of_pos (show (0 : ℚ) < 2 ^ (-149 : ℤ) by positivity)]
  refine lt_of_mul_lt_mul_right ?_ (show (0 : ℚ) ≤ 2 ^ 149 by positivity)
  rwa [mul_assoc, hunit', mul_one]

/-- An exact result is not rounded. -/
theorem NearestEven.value_eq {q : ℚ} {r z : F32} (h : NearestEven q r) (hz : z.isFinite = true) (hq : z.value = q) :
    r.isFinite = true ∧ r.value = q := by
  obtain ⟨hfinite, hnear⟩ := h.1 (hq ▸ F32.abs_value_lt hz)
  have hle := (hnear z hz).1
  rw [hq, sub_self, abs_zero] at hle
  exact ⟨hfinite, (sub_eq_zero.mp (abs_nonpos_iff.mp hle)).symm⟩

/-- Rounding keeps a magnitude of up to 24 bits. -/
theorem F32.round_exact (neg : Bool) {m a : Nat} {e f : ℤ} (hm : (m : ℚ) * 2 ^ e = a * 2 ^ f) (ha : a < 2 ^ 24)
    (hf : -149 ≤ f) (hf' : f ≤ 104) :
    (F32.round neg m e).isFinite = true ∧ (F32.round neg m e).value = signFactor neg * (a * 2 ^ f) := by
  obtain ⟨z, hz, hvalue, -⟩ := F32.exists_value neg ha hf hf'
  have hround := F32.round_nearestEven neg e (standsFor_self m)
  rw [hm] at hround
  exact hround.value_eq hz hvalue

/-- The nearest value lies on the other side of its midpoint with any other value. -/
theorem NearestEven.midpoint {q : ℚ} {r z : F32} (h : NearestEven q r) (hq : |q| < (2 : ℚ) ^ 128 - 2 ^ 103)
    (hz : z.isFinite = true) :
    (r.value < z.value → q ≤ (r.value + z.value) / 2) ∧ (z.value < r.value → (r.value + z.value) / 2 ≤ q) := by
  have hle := sq_le_sq.mpr ((h.1 hq).2 z hz).1
  exact ⟨fun hlt => by nlinarith, fun hlt => by nlinarith⟩

/-! ### The square root -/

/-- The bits of a root from bit `k - 1` down. -/
theorem isqrt_spec (k n acc : Nat) (hlow : acc * acc ≤ n) (hhigh : n < (acc + 2 ^ k) * (acc + 2 ^ k)) :
    isqrt k n acc * isqrt k n acc ≤ n ∧ n < (isqrt k n acc + 1) * (isqrt k n acc + 1) := by
  induction k generalizing acc with
  | zero => exact ⟨hlow, by simpa [isqrt] using hhigh⟩
  | succ k ih =>
    have hstep : acc + 1 <<< k = acc + 2 ^ k := by rw [Nat.one_shiftLeft]
    rw [isqrt]
    simp only [hstep]
    split
    · next hle =>
      refine ih _ hle ?_
      rwa [add_assoc, ← two_mul, ← pow_succ']
    · next hgt => exact ih _ hlow (not_le.mp hgt)

/-- A rounded value and a sticky bit: the midpoints about the rounded value lie beyond all that the odd magnitude stands for. -/
theorem midpoint_of_sticky_round {r : Nat} {e : ℤ} (hr : 2 ^ 24 ≤ r) (hsmall : (2 * r + 2 : ℚ) * 2 ^ e < 2 ^ 127) :
    (F32.round false (2 * r + 1) e).isFinite = true ∧ ∀ z : F32, z.isFinite = true →
      ((F32.round false (2 * r + 1) e).value < z.value →
        (2 * r + 2) * 2 ^ e ≤ ((F32.round false (2 * r + 1) e).value + z.value) / 2) ∧
      (z.value < (F32.round false (2 * r + 1) e).value →
        ((F32.round false (2 * r + 1) e).value + z.value) / 2 ≤ 2 * r * 2 ^ e) := by
  have hpow : (0 : ℚ) < 2 ^ e := by positivity
  have hround (y : ℚ) (hlow : 2 * r < y) (hhigh : y < 2 * r + 2) :
      NearestEven (y * 2 ^ e) (F32.round false (2 * r + 1) e) ∧ |y * 2 ^ e| < (2 : ℚ) ^ 128 - 2 ^ 103 := by
    have hr0 : (0 : ℚ) ≤ r := Nat.cast_nonneg r
    have hstands : StandsFor (2 * r + 1) y := .inr ⟨by omega, by omega, by push_cast; linarith, by push_cast; linarith⟩
    have hy : y * 2 ^ e < (2 * r + 2) * 2 ^ e := mul_lt_mul_of_pos_right hhigh hpow
    refine ⟨by simpa [signFactor] using F32.round_nearestEven false e hstands, ?_⟩
    rw [abs_of_nonneg (mul_nonneg (by linarith) hpow.le)]
    norm_num at hsmall ⊢
    linarith
  generalize F32.round false (2 * r + 1) e = x at hround ⊢
  obtain ⟨hmiddle, hbound⟩ := hround (2 * r + 1) (by linarith) (by linarith)
  refine ⟨(hmiddle.1 hbound).1, fun z hz => ⟨fun hlt => ?_, fun hlt => ?_⟩⟩
  · refine le_of_forall_lt_imp_le_of_dense fun c hc => ?_
    have hc' : c / 2 ^ e < 2 * r + 2 := (div_lt_iff₀ hpow).mpr hc
    obtain ⟨hnear, hbound⟩ := hround (max (c / 2 ^ e) (2 * r + 1)) (lt_max_of_lt_right (by linarith))
      (max_lt hc' (by linarith))
    exact ((div_le_iff₀ hpow).mp (le_max_left ..)).trans ((hnear.midpoint hbound hz).1 hlt)
  · refine le_of_forall_gt_imp_ge_of_dense fun c hc => ?_
    have hc' : 2 * r < c / 2 ^ e := (lt_div_iff₀ hpow).mpr hc
    obtain ⟨hnear, hbound⟩ := hround (min (c / 2 ^ e) (2 * r + 1)) (lt_min hc' (by linarith))
      (min_lt_of_right_lt (by linarith))
    exact ((hnear.midpoint hbound hz).2 hlt).trans ((le_div_iff₀ hpow).mp (min_le_left ..))

/-- An exact root: of two values the midpoint is on the side of the second. -/
theorem nearestRoot_of_exact {q : ℚ} {r : F32} (hfinite : r.isFinite = true) (hnonneg : 0 ≤ r.value) (hq : q = r.value ^ 2) :
    NearestRoot q r := by
  refine ⟨hfinite, hnonneg, fun z hz hz0 => ⟨fun hlt => ?_, fun hlt => ?_⟩⟩
  · rw [hq]
    exact pow_lt_pow_left₀ (by linarith) hnonneg two_ne_zero
  · rw [hq]
    exact pow_lt_pow_left₀ (by linarith) (by linarith) two_ne_zero

theorem F32.isFinite_zero : F32.zero.isFinite = true ∧ F32.zero.value = 0 := by
  refine ⟨rfl, ?_⟩
  rw [F32.value_eq_unitsOfKey rfl]
  exact mul_eq_zero_of_left (by exact_mod_cast (rfl : F32.unitsOfKey 0 = 0)) _

/-- The root of `n * (2 * 2^e)^2` from the integer root of `n` and its sticky bit. -/
theorem nearestRoot_of_isqrt {n r : Nat} {e : ℤ} (hlow : r * r ≤ n) (hhigh : n < (r + 1) * (r + 1)) (hdvd : (2 ^ 27) ^ 2 ∣ n)
    (hn : n < 2 ^ 80) (hpos : n ≠ 0) (he : -103 ≤ e) (he' : e ≤ 25) :
    NearestRoot (n * (2 * 2 ^ e) ^ 2) (F32.round false (2 * r + if r * r = n then 0 else 1) e) := by
  have hpow : (0 : ℚ) < 2 ^ e := by positivity
  split
  · next hexact =>
    obtain ⟨a, rfl⟩ : 2 ^ 27 ∣ r := (Nat.pow_dvd_pow_iff two_ne_zero).mp (by rwa [sq r, hexact])
    have ha : a < 2 ^ 24 := by
      by_contra hge
      have := Nat.mul_le_mul (Nat.mul_le_mul_left (2 ^ 27) (not_lt.mp hge)) (Nat.mul_le_mul_left (2 ^ 27) (not_lt.mp hge))
      norm_num at this hn hexact ⊢
      omega
    have hm : ((2 * (2 ^ 27 * a) + 0 : Nat) : ℚ) * 2 ^ e = a * 2 ^ (28 + e) := by
      rw [zpow_add₀ two_ne_zero]
      push_cast
      norm_num
      ring
    obtain ⟨hfinite, hvalue⟩ := F32.round_exact false hm ha (by omega) (by omega)
    have hvalue' : (F32.round false (2 * (2 ^ 27 * a) + 0) e).value = 2 ^ 28 * a * 2 ^ e := by
      rw [hvalue, ← hm]
      simp only [signFactor, Bool.false_eq_true, if_false]
      push_cast
      ring
    refine nearestRoot_of_exact hfinite (hvalue' ▸ by positivity) ?_
    rw [hvalue', ← hexact]
    push_cast
    ring
  · next hinexact =>
    have hr : 2 ^ 24 ≤ r := by
      by_contra hlt
      have := Nat.mul_le_mul (show r + 1 ≤ 2 ^ 24 by omega) (show r + 1 ≤ 2 ^ 24 by omega)
      have := Nat.le_of_dvd (Nat.pos_of_ne_zero hpos) hdvd
      norm_num at *
      omega
    have hr' : r < 2 ^ 40 := by
      by_contra hge
      have := Nat.mul_le_mul (not_lt.mp hge) (not_lt.mp hge)
      norm_num at *
      omega
    have hsmall : (2 * r + 2 : ℚ) * 2 ^ e < 2 ^ 127 := by
      have h1 : (2 * r + 2 : ℚ) < 2 ^ 42 := by
        have : (r : ℚ) < 2 ^ 40 := by exact_mod_cast hr'
        linarith
      calc (2 * r + 2 : ℚ) * 2 ^ e ≤ 2 ^ 42 * 2 ^ (25 : ℤ) :=
            mul_le_mul h1.le (zpow_le_zpow_right₀ one_le_two he') hpow.le (by positivity)
        _ < 2 ^ 127 := by norm_num
    obtain ⟨hfinite, hmid⟩ := midpoint_of_sticky_round hr hsmall
    generalize F32.round false (2 * r + 1) e = x at hfinite hmid ⊢
    have hrr : (r * r + 1 : ℚ) ≤ n := by exact_mod_cast (show r * r + 1 ≤ n by omega)
    have hrr' : (n : ℚ) < (r + 1) * (r + 1) := by exact_mod_cast hhigh
    have hr0 : (0 : ℚ) ≤ r := Nat.cast_nonneg r
    obtain ⟨hzero, hzeroValue⟩ := F32.isFinite_zero
    have hnonneg : 0 ≤ x.value := by
      by_contra hneg
      have := (hmid _ hzero).1 (hzeroValue ▸ not_le.mp hneg)
      have : (0 : ℚ) < (2 * r + 2) * 2 ^ e := by positivity
      linarith [not_le.mp hneg]
    refine ⟨hfinite, hnonneg, fun z hz hz0 => ⟨fun hlt => ?_, fun hlt => ?_⟩⟩
    · have hmid' := (hmid z hz).1 hlt
      calc (n : ℚ) * (2 * 2 ^ e) ^ 2 < (r + 1) * (r + 1) * (2 * 2 ^ e) ^ 2 := mul_lt_mul_of_pos_right hrr' (by positivity)
        _ = ((2 * r + 2) * 2 ^ e) ^ 2 := by ring
        _ ≤ _ := pow_le_pow_left₀ (by positivity) hmid' 2
    · have hmid' := (hmid z hz).2 hlt
      calc _ ≤ (2 * r * 2 ^ e : ℚ) ^ 2 := pow_le_pow_left₀ (by linarith) hmid' 2
        _ = r * r * (2 * 2 ^ e) ^ 2 := by ring
        _ < n * (2 * 2 ^ e) ^ 2 := mul_lt_mul_of_pos_right (by linarith) (by positivity)

theorem F32.sqrt_finite {x : F32} (hx : x.isFinite = true) :
    (0 ≤ x.value → NearestRoot x.value x.sqrt) ∧ (x.value < 0 → x.sqrt.isNaN = true) := by
  obtain ⟨m, e, hux, hvx, -, hm, he, he'⟩ := F32.unpack_of_isFinite hx
  have hpow : (0 : ℚ) < 2 ^ e := by positivity
  by_cases hzero : m = 0
  case pos =>
    subst hzero
    have hvalue : x.value = 0 := by simp [hvx]
    have hsqrt : x.sqrt = F32.signedZero (x.bits.getLsbD 31) := by simp [F32.sqrt, hux]
    have hround := F32.round_exact (x.bits.getLsbD 31) (m := 0) (a := 0) (e := 0) (f := 0) rfl (by omega) (by omega) (by omega)
    rw [hvalue, hsqrt]
    refine ⟨fun _ => ?_, fun h => absurd h (not_lt.mpr le_rfl)⟩
    have hval : (F32.signedZero (x.bits.getLsbD 31)).value = 0 := hround.2.trans (by simp)
    exact nearestRoot_of_exact hround.1 hval.ge (by rw [hval]; ring)
  case neg =>
    have hmpos : (0 : ℚ) < m * 2 ^ e := mul_pos (by exact_mod_cast Nat.pos_of_ne_zero hzero) hpow
    cases hsign : x.bits.getLsbD 31
    case true =>
      rw [hsign] at hux hvx
      have hneg : x.value < 0 := by
        rw [hvx, signFactor]
        simpa using hmpos
      have hsqrt : x.sqrt = F32.nan := by simp [F32.sqrt, hux, hzero]
      exact ⟨fun h => absurd h (not_le.mpr hneg), fun _ => hsqrt ▸ F32.isNaN_nan⟩
    case false =>
      rw [hsign] at hux hvx
      have hvalue : x.value = m * 2 ^ e := by simp [hvx, signFactor]
      obtain ⟨k, hk⟩ : ∃ k : Nat, k = if e % 2 = 0 then 54 else 55 := ⟨_, rfl⟩
      have hk' : 54 ≤ k ∧ k ≤ 55 ∧ (e - k) % 2 = 0 := by
        rw [hk]
        split <;> grind
      have hsqrt : x.sqrt = F32.round false (2 * isqrt 40 (m <<< k) 0 +
          if isqrt 40 (m <<< k) 0 * isqrt 40 (m <<< k) 0 = m <<< k then 0 else 1) ((e - k) / 2 - 1) := by
        simp only [F32.sqrt, hux, if_neg hzero, Bool.false_eq_true, if_false, hk]
      have hn : m <<< k < 2 ^ 80 := by
        rw [Nat.shiftLeft_eq]
        calc m * 2 ^ k ≤ 2 ^ 24 * 2 ^ 55 := Nat.mul_le_mul hm.le (Nat.pow_le_pow_right (by omega) hk'.2.1)
          _ < 2 ^ 80 := by norm_num
      have hpos : m <<< k ≠ 0 := by
        rw [Nat.shiftLeft_eq]
        exact (Nat.mul_pos (Nat.pos_of_ne_zero hzero) (by positivity)).ne'
      have hdvd : (2 ^ 27) ^ 2 ∣ m <<< k := by
        rw [Nat.shiftLeft_eq, ← pow_mul]
        exact Dvd.dvd.mul_left (Nat.pow_dvd_pow 2 hk'.1) m
      obtain ⟨hlow, hhigh⟩ := isqrt_spec 40 (m <<< k) 0 (Nat.zero_le _) (hn.trans_le (by norm_num))
      have hq : x.value = (m <<< k : Nat) * (2 * 2 ^ ((e - k) / 2 - 1)) ^ 2 := by
        have hscale : (2 : ℚ) ^ k * (2 * 2 ^ ((e - k) / 2 - 1)) ^ 2 = 2 ^ e := by
          rw [← zpow_one_add₀ two_ne_zero, ← zpow_natCast, ← zpow_natCast, ← zpow_mul, ← zpow_add₀ two_ne_zero]
          congr 1
          push_cast
          omega
        rw [hvalue, Nat.shiftLeft_eq, Nat.cast_mul, Nat.cast_pow, Nat.cast_ofNat, mul_assoc, hscale]
      refine ⟨fun _ => ?_, fun h => absurd h (not_lt.mpr (hvalue ▸ hmpos.le))⟩
      rw [hsqrt, hq]
      exact nearestRoot_of_isqrt hlow hhigh hdvd hn hpos (by omega) (by omega)

/-! ### Zeros, infinities and NaNs -/

/-- The answers of R150 for a finite operand and infinities. -/
theorem F32.infinite_operands {x : F32} (hx : x.isFinite = true) (a b : Bool) :
    (F32.inf a).add x = F32.inf a ∧ x.add (F32.inf a) = F32.inf a ∧ x.sub (F32.inf a) = F32.inf (!a) ∧
    (F32.inf a).sub x = F32.inf a ∧
    (a = b → (F32.inf a).add (F32.inf b) = F32.inf a ∧ ((F32.inf a).sub (F32.inf b)).isNaN = true) ∧
    (a ≠ b → ((F32.inf a).add (F32.inf b)).isNaN = true ∧ (F32.inf a).sub (F32.inf b) = F32.inf a) ∧
    (x.isZero = false →
      (F32.inf a).mul x = F32.inf (a ^^ x.bits.getLsbD 31) ∧ x.mul (F32.inf a) = F32.inf (a ^^ x.bits.getLsbD 31)) ∧
    (x.isZero = true → ((F32.inf a).mul x).isNaN = true ∧ (x.mul (F32.inf a)).isNaN = true) ∧
    (F32.inf a).mul (F32.inf b) = F32.inf (a ^^ b) ∧ ((F32.inf a).div (F32.inf b)).isNaN = true ∧
    (F32.inf a).div x = F32.inf (a ^^ x.bits.getLsbD 31) ∧
    x.div (F32.inf a) = F32.signedZero (a ^^ x.bits.getLsbD 31) := by
  obtain ⟨m, e, hux, -, hzero, -⟩ := F32.unpack_of_isFinite hx
  obtain ⟨n, f, hneg, -⟩ := F32.unpack_of_isFinite (F32.isFinite_neg hx)
  have hmul : (F32.inf a).mul x = (if m = 0 then F32.nan else F32.inf (a ^^ x.bits.getLsbD 31)) ∧
      x.mul (F32.inf a) = if m = 0 then F32.nan else F32.inf (a ^^ x.bits.getLsbD 31) := by
    simp [F32.mul, hux, Bool.xor_comm]
  refine ⟨?_, ?_, ?_, ?_, fun hab => ?_, fun hab => ?_, fun hz => ?_, fun hz => ?_, ?_, ?_, ?_, ?_⟩
  · simp [F32.add, hux]
  · simp [F32.add, hux]
  · simp [F32.sub, F32.neg_inf, F32.add, hux]
  · simp [F32.sub, F32.add, hneg]
  · simp [F32.sub, F32.neg_inf, F32.add, hab]
  · simp [F32.sub, F32.neg_inf, F32.add, hab]
  · have hm : m ≠ 0 := fun h => by simp [hzero.mpr h] at hz
    simpa only [if_neg hm] using hmul
  · simp [hmul, hzero.mp hz]
  · simp [F32.mul]
  · simp [F32.div]
  · simp [F32.div, hux]
  · simp [F32.div, hux, Bool.xor_comm]

/-- A NaN operand gives a NaN. -/
theorem F32.isNaN_operand {x y : F32} (h : x.isNaN = true ∨ y.isNaN = true) :
    (x.add y).isNaN = true ∧ (x.mul y).isNaN = true ∧ (x.div y).isNaN = true := by
  rcases h with hx | hy
  · simp [F32.add, F32.mul, F32.div, Machine.unpack_of_isNaN hx]
  · have huy := Machine.unpack_of_isNaN hy
    cases hux : x.unpack <;> simp [F32.add, F32.mul, F32.div, hux, huy]

/-- A finite operand over a zero. -/
theorem F32.div_zero {x y : F32} (hx : x.isFinite = true) (hy : y.isFinite = true) (hzero : y.isZero = true) :
    (x.isZero = false → x.div y = F32.inf (x.bits.getLsbD 31 ^^ y.bits.getLsbD 31)) ∧
    (x.isZero = true → (x.div y).isNaN = true) := by
  obtain ⟨m, e, hux, -, hm, -⟩ := F32.unpack_of_isFinite hx
  obtain ⟨n, f, huy, -, hn, -⟩ := F32.unpack_of_isFinite hy
  have hdiv : x.div y = if m = 0 then F32.nan else F32.inf (x.bits.getLsbD 31 ^^ y.bits.getLsbD 31) := by
    simp [F32.div, hux, huy, hn.mp hzero]
  refine ⟨fun hz => ?_, fun hz => ?_⟩
  · have hne : m ≠ 0 := fun h => by simp [hm.mpr h] at hz
    rw [hdiv, if_neg hne]
  · rw [hdiv, if_pos (hm.mp hz)]
    rfl

end Sys2Proof

namespace Sys2Proof.Machine

/-- Settles O58. Each operation hands its exact result, or one with a sticky bit, to one rounding. -/
theorem floatOpsRoundToNearest : Obligations.FloatOpsRoundToNearest := by
  refine ⟨fun x y hx hy => ?finite, fun x y h => ?nan, fun x hx => F32.sqrt_finite hx, rfl, rfl, fun x hx => ?rootNaN⟩
  case finite =>
    obtain ⟨hadd, haddZero⟩ := F32.add_finite hx hy
    obtain ⟨hsub, hsubZero⟩ := F32.sub_finite hx hy
    obtain ⟨hmul, hmulSign⟩ := F32.mul_finite hx hy
    exact ⟨hadd, hsub, haddZero, hsubZero, hmul, hmulSign, F32.div_finite hx hy, fun hy0 => (F32.div_zero hx hy hy0).1,
      fun hy0 => (F32.div_zero hx hy hy0).2, F32.infinite_operands hx⟩
  case nan =>
    obtain ⟨hadd, hmul, hdiv⟩ := F32.isNaN_operand h
    exact ⟨hadd, (F32.isNaN_operand (h.imp_right F32.isNaN_neg)).1, hmul, hdiv⟩
  case rootNaN => simp [F32.sqrt, unpack_of_isNaN hx]

end Sys2Proof.Machine
end

section
/-! PROOFS. Exact conversions and sums (`40_vector_math.md` R151, R153, `41_pointset.md` R192): patterns by their values. -/

namespace Sys2Proof

/-! ### A finite pattern by its value -/

/-- A finite pattern is known by its value and its sign bit. -/
theorem F32.eq_of_value_eq {x y : F32} (hx : x.isFinite = true) (hy : y.isFinite = true) (hvalue : x.value = y.value)
    (hsign : x.bits.getLsbD 31 = y.bits.getLsbD 31) : x = y := by
  have hkey : x.key = y.key := by
    rw [F32.value_eq_unitsOfKey hx, F32.value_eq_unitsOfKey hy] at hvalue
    exact F32.unitsOfKey_strictMono.injective (Int.cast_injective (mul_right_cancel₀ (by positivity) hvalue))
  have habs := congrArg Int.natAbs hkey
  rw [F32.natAbs_key, F32.natAbs_key] at habs
  rw [F32.getLsbD_thirtyOne, F32.getLsbD_thirtyOne, decide_eq_decide] at hsign
  have hbits : x.bits = y.bits := BitVec.eq_of_toNat_eq (by
    have := x.bits.isLt
    have := y.bits.isLt
    omega)
  cases x
  cases y
  exact congrArg F32.mk hbits

/-- A positive value has a clear sign bit. -/
theorem F32.sign_of_value_pos {x : F32} (hx : x.isFinite = true) (hpos : 0 < x.value) : x.bits.getLsbD 31 = false := by
  obtain ⟨m, e, -, hvx, -⟩ := F32.unpack_of_isFinite hx
  cases hsign : x.bits.getLsbD 31
  · rfl
  · have : (0 : ℚ) ≤ m * 2 ^ e := by positivity
    rw [hvx, hsign, signFactor, if_pos rfl] at hpos
    linarith

theorem F32.eq_of_value_eq_of_pos {x y : F32} (hx : x.isFinite = true) (hy : y.isFinite = true) (hvalue : x.value = y.value)
    (hpos : 0 < x.value) : x = y :=
  F32.eq_of_value_eq hx hy hvalue ((F32.sign_of_value_pos hx hpos).trans (F32.sign_of_value_pos hy (hvalue ▸ hpos)).symm)

/-! ### Truncation (R153, R159) -/

/-- The integer part of a mantissa and exponent. -/
def integerPart (m : Nat) (e : Int) : Nat := if 0 ≤ e then m <<< e.toNat else m >>> (-e).toNat

theorem integerPart_bounds (m : Nat) (e : Int) :
    (integerPart m e : ℚ) ≤ m * 2 ^ e ∧ (m : ℚ) * 2 ^ e < integerPart m e + 1 ∧ (0 ≤ e → (integerPart m e : ℚ) = m * 2 ^ e) := by
  unfold integerPart
  split
  · next he =>
    have hshift : ((m <<< e.toNat : Nat) : ℚ) = m * 2 ^ e := by
      rw [Nat.shiftLeft_eq, Nat.cast_mul, Nat.cast_pow, ← zpow_natCast, Int.toNat_of_nonneg he]
      rfl
    rw [hshift]
    exact ⟨le_rfl, by linarith, fun _ => rfl⟩
  · next he =>
    obtain ⟨k, hk⟩ : ∃ k : Nat, k = (-e).toNat := ⟨_, rfl⟩
    have hpow : (2 : ℚ) ^ e = (2 ^ k)⁻¹ := by
      rw [← zpow_natCast, ← zpow_neg]
      congr 1
      omega
    have hpos : (0 : ℚ) < 2 ^ k := by positivity
    have hdiv := Nat.div_add_mod m (2 ^ k)
    have hmod := Nat.mod_lt m (show 0 < 2 ^ k by positivity)
    have hlow : (m / 2 ^ k : Nat) * 2 ^ k ≤ m := Nat.div_mul_le_self ..
    have hhigh : m < (m / 2 ^ k + 1) * 2 ^ k := by
      rw [add_mul, mul_comm]
      omega
    rw [← hk, Nat.shiftRight_eq_div_pow, hpow, ← div_eq_mul_inv, le_div_iff₀ hpos, div_lt_iff₀ hpos]
    exact ⟨by exact_mod_cast hlow, by exact_mod_cast hhigh, fun h => absurd h he⟩

theorem F32.toInt?_of_unpack {x : F32} {neg : Bool} {m : Nat} {e : Int} (h : x.unpack = .fin neg m e) :
    x.toInt? = some (signedInt neg (integerPart m e)) := by
  simp only [F32.toInt?, h, integerPart]

/-- Integers up to `2^24` convert exactly (R151). -/
theorem F32.ofNat_exact {n : Nat} (hn : n ≤ 2 ^ 24) : (F32.ofNat n).isFinite = true ∧ (F32.ofNat n).value = n := by
  rcases hn.lt_or_eq with hlt | rfl
  · obtain ⟨hfinite, hvalue⟩ := F32.round_exact false (m := n) (e := 0) (f := 0) rfl hlt (by omega) (by omega)
    exact ⟨hfinite, hvalue.trans (by simp [signFactor])⟩
  · obtain ⟨hfinite, hvalue⟩ := F32.round_exact false (m := 2 ^ 24) (a := 1) (e := 0) (f := 24) (by norm_num) (by omega)
      (by omega) (by omega)
    exact ⟨hfinite, hvalue.trans (by norm_num [signFactor])⟩

theorem F32.sign_ofNat (n : Nat) : (F32.ofNat n).bits.getLsbD 31 = false := F32.sign_round ..

/-- Truncation of a value that is not negative: the conversion of its integer part (R153). -/
theorem F32.trunc_of_nonneg {x : F32} (hx : x.isFinite = true) (hsign : x.bits.getLsbD 31 = false) (hle : x.value ≤ 2 ^ 24) :
    ∃ n : Nat, x.trunc = F32.ofNat n ∧ x.toInt? = some (n : ℤ) ∧ (n : ℚ) ≤ x.value ∧ x.value < n + 1 := by
  obtain ⟨m, e, hux, hvx, -⟩ := F32.unpack_of_isFinite hx
  rw [hsign] at hux hvx
  have hvalue : x.value = m * 2 ^ e := by simp [hvx, signFactor]
  obtain ⟨hlow, hhigh, hexact⟩ := integerPart_bounds m e
  refine ⟨integerPart m e, ?_, ?_, hvalue ▸ hlow, hvalue ▸ hhigh⟩
  · by_cases he : 0 ≤ e
    · have htrunc : x.trunc = x := by simp only [F32.trunc, hux, if_pos he]
      have hn : integerPart m e ≤ 2 ^ 24 := by
        have : (integerPart m e : ℚ) ≤ 2 ^ 24 := by rw [hexact he, ← hvalue]; exact hle
        exact_mod_cast this
      obtain ⟨hfinite, hofNat⟩ := F32.ofNat_exact hn
      rw [htrunc]
      exact F32.eq_of_value_eq hx hfinite (by rw [hofNat, hexact he, hvalue]) (hsign.trans (F32.sign_ofNat _).symm)
    · simp only [F32.trunc, hux, if_neg he, integerPart, F32.ofNat]
  · rw [F32.toInt?_of_unpack hux]
    rfl

end Sys2Proof

namespace Sys2Proof.Machine

/-- Settles O59. The value is exact, so its integer part is the number itself. -/
theorem smallIntegersExact : Obligations.SmallIntegersExact := by
  intro n hn
  obtain ⟨hfinite, hvalue⟩ := F32.ofNat_exact hn
  obtain ⟨k, htrunc, hint, hlow, hhigh⟩ := F32.trunc_of_nonneg hfinite (F32.sign_ofNat n) (by rw [hvalue]; exact_mod_cast hn)
  rw [hvalue] at hlow hhigh
  have hk : k = n := Nat.le_antisymm (by exact_mod_cast hlow) (Nat.le_of_lt_succ (by exact_mod_cast hhigh))
  subst hk
  exact ⟨hint, hvalue, htrunc⟩

/-! ### Sums of texel weights (R192) -/

theorem f256_exact : f256.isFinite = true ∧ f256.isZero = false ∧ f256.value = 256 := by
  have hunpack : f256.unpack = .fin false 0x800000 (-15) := by decide
  refine ⟨by decide, by decide, ?_⟩
  simp only [F32.value, hunpack]
  norm_num

/-- A weight `a / 256` is exact. -/
theorem weight_exact {a : Nat} (ha : a ≤ 4096) :
    ((F32.ofNat a).div f256).isFinite = true ∧ ((F32.ofNat a).div f256).value = (a : ℚ) / 256 := by
  obtain ⟨hfinite, hvalue⟩ := F32.ofNat_exact (n := a) (by omega)
  obtain ⟨z, hz, hzvalue, -⟩ := F32.exists_value false (a := a) (e := -8) (by omega) (by omega) (by omega)
  obtain ⟨h256, hne, hvalue256⟩ := f256_exact
  have hdiv := (F32.div_finite hfinite h256 hne).1
  rw [hvalue, hvalue256] at hdiv
  refine hdiv.value_eq hz (hzvalue.trans ?_)
  norm_num [signFactor]
  ring

/-- Settles O27. The exact sum is itself a weight. -/
theorem weightSumsExact : Obligations.WeightSumsExact := by
  intro a b ha hb hab
  obtain ⟨hfa, hva⟩ := weight_exact (a := a) (by omega)
  obtain ⟨hfb, hvb⟩ := weight_exact (a := b) (by omega)
  obtain ⟨hfc, hvc⟩ := weight_exact (a := a + b) hab
  have hsum : ((F32.ofNat a).div f256).value + ((F32.ofNat b).div f256).value = ((F32.ofNat (a + b)).div f256).value := by
    rw [hva, hvb, hvc]
    push_cast
    ring
  have hadd := (F32.add_finite hfa hfb).1
  rw [hsum] at hadd
  obtain ⟨hfinite, hvalue⟩ := hadd.value_eq hfc rfl
  refine F32.eq_of_value_eq_of_pos hfinite hfc hvalue ?_
  rw [hvalue, hvc]
  positivity

end Sys2Proof.Machine
end

section
/-! PROOFS. PACK3 and PACK4 (`45_colour_codec.md` R330 to R334, R340, R341): the quantiser's fields at and beyond the ends of
[0, 1], and the packed block read back. -/

namespace Sys2Proof

/-! ### Rounding keeps the order -/

/-- Rounding does not cross a finite value. -/
theorem NearestEven.ge_of_ge {q : ℚ} {r z : F32} (h : NearestEven q r) (hq : |q| < (2 : ℚ) ^ 128 - 2 ^ 103)
    (hz : z.isFinite = true) (hle : z.value ≤ q) : z.value ≤ r.value := by
  by_contra hlt
  have := (h.midpoint hq hz).1 (not_le.mp hlt)
  linarith [not_le.mp hlt]

theorem NearestEven.le_of_le {q : ℚ} {r z : F32} (h : NearestEven q r) (hq : |q| < (2 : ℚ) ^ 128 - 2 ^ 103)
    (hz : z.isFinite = true) (hle : q ≤ z.value) : r.value ≤ z.value := by
  by_contra hlt
  have := (h.midpoint hq hz).2 (not_le.mp hlt)
  linarith [not_le.mp hlt]

/-- A value rounded from at least `z`: it is at least `z`, or it overflows to `+∞`. -/
theorem NearestEven.ge_or_inf {q : ℚ} {r z : F32} (h : NearestEven q r) (hz : z.isFinite = true) (hle : z.value ≤ q) :
    (r.isFinite = true ∧ z.value ≤ r.value) ∨ r = F32.inf false := by
  rcases lt_or_ge |q| ((2 : ℚ) ^ 128 - 2 ^ 103) with hq | hq
  · exact .inl ⟨(h.1 hq).1, h.ge_of_ge hq hz hle⟩
  · right
    have hzabs := abs_lt.mp (F32.abs_value_lt hz)
    have hpos : 0 ≤ q := by
      by_contra hneg
      rw [abs_of_neg (not_le.mp hneg)] at hq
      linarith
    rw [h.2 hq, decide_eq_false (not_lt.mpr hpos)]

theorem NearestEven.le_or_inf {q : ℚ} {r z : F32} (h : NearestEven q r) (hz : z.isFinite = true) (hle : q ≤ z.value) :
    (r.isFinite = true ∧ r.value ≤ z.value) ∨ r = F32.inf true := by
  rcases lt_or_ge |q| ((2 : ℚ) ^ 128 - 2 ^ 103) with hq | hq
  · exact .inl ⟨(h.1 hq).1, h.le_of_le hq hz hle⟩
  · right
    have hzabs := abs_lt.mp (F32.abs_value_lt hz)
    have hneg : q < 0 := by
      by_contra hpos
      rw [abs_of_nonneg (not_lt.mp hpos)] at hq
      linarith
    rw [h.2 hq, decide_eq_true hneg]

/-! ### `FloatToInt` beyond its limits (R159, R331) -/

theorem F32.half_exact : F32.half.isFinite = true ∧ F32.half.value = 1 / 2 := by
  have hunpack : F32.half.unpack = .fin false 0x800000 (-24) := by decide
  refine ⟨by decide, ?_⟩
  simp only [F32.value, hunpack]
  norm_num

/-- The integer part of a finite value, by its sign. -/
theorem F32.toInt?_of_isFinite {x : F32} (hx : x.isFinite = true) : ∃ n : Nat,
    x.toInt? = some (signedInt (x.bits.getLsbD 31) n) ∧ (n : ℚ) ≤ |x.value| ∧ |x.value| < n + 1 := by
  obtain ⟨m, e, hux, hvx, -⟩ := F32.unpack_of_isFinite hx
  obtain ⟨hlow, hhigh, -⟩ := integerPart_bounds m e
  have habs : |x.value| = m * 2 ^ e := hvx ▸ abs_signFactor_mul _ (by positivity)
  exact ⟨_, F32.toInt?_of_unpack hux, habs ▸ hlow, habs ▸ hhigh⟩

theorem floatToInt_of_add_inf {x : F32} {neg : Bool} (h : x.add F32.half = F32.inf neg) (limit : Nat) :
    floatToInt x limit = if neg then 0 else limit := by
  unfold floatToInt
  rw [h]
  cases neg <;> rfl

theorem floatToInt_of_toInt? {x : F32} {i : ℤ} (h : (x.add F32.half).toInt? = some i) (limit : Nat) :
    floatToInt x limit = if i < 0 then 0 else min i.toNat limit := by
  unfold floatToInt
  simp only [h]

/-- From the limit on, the result is the limit. -/
theorem floatToInt_of_ge {x : F32} {limit : Nat} (hx : x.isFinite = true) (hpos : 0 < limit) (hlimit : limit ≤ 2 ^ 24)
    (hge : (limit : ℚ) ≤ x.value) : floatToInt x limit = limit := by
  obtain ⟨hhalf, hhalfValue⟩ := F32.half_exact
  obtain ⟨hfinite, hvalue⟩ := F32.ofNat_exact hlimit
  have hsum := (F32.add_finite hx hhalf).1
  rcases hsum.ge_or_inf hfinite (by rw [hvalue, hhalfValue]; linarith) with ⟨hy, hle⟩ | hinf
  · have hlimit' : (0 : ℚ) < limit := by exact_mod_cast hpos
    have hypos : 0 < (x.add F32.half).value := by linarith
    obtain ⟨n, hint, -, hhigh⟩ := F32.toInt?_of_isFinite hy
    rw [F32.sign_of_value_pos hy hypos] at hint
    rw [abs_of_pos hypos] at hhigh
    have hn : limit < n + 1 := by
      have : (limit : ℚ) < n + 1 := by linarith
      exact_mod_cast this
    rw [floatToInt_of_toInt? (show _ = some (n : ℤ) from hint), if_neg (by omega), Int.toNat_natCast]
    omega
  · exact (floatToInt_of_add_inf hinf limit).trans (if_neg Bool.false_ne_true)

/-- Up to 0 the result is 0. -/
theorem floatToInt_of_nonpos {x : F32} (hx : x.isFinite = true) (hle : x.value ≤ 0) (limit : Nat) :
    floatToInt x limit = 0 := by
  obtain ⟨hhalf, hhalfValue⟩ := F32.half_exact
  have hsum := (F32.add_finite hx hhalf).1
  rcases hsum.le_or_inf hhalf (by linarith) with ⟨hy, hle'⟩ | hinf
  · obtain ⟨n, hint, hlow, -⟩ := F32.toInt?_of_isFinite hy
    cases hsign : (x.add F32.half).bits.getLsbD 31 <;> rw [hsign] at hint
    · obtain ⟨m, e, -, hvy, -⟩ := F32.unpack_of_isFinite hy
      have hnonneg : 0 ≤ (x.add F32.half).value := by
        rw [hvy, hsign, signFactor, if_neg Bool.false_ne_true]
        positivity
      rw [abs_of_nonneg hnonneg] at hlow
      have hn : n < 1 := by
        have : (n : ℚ) < 1 := by linarith
        exact_mod_cast this
      obtain rfl : n = 0 := by omega
      exact floatToInt_of_toInt? (show _ = some (0 : ℤ) from hint) limit
    · rw [floatToInt_of_toInt? (show _ = some (-(n : ℤ)) from hint)]
      split
      · rfl
      · next hn =>
        rw [show (-(n : ℤ)).toNat = 0 by omega]
        exact Nat.zero_min limit
  · exact (floatToInt_of_add_inf hinf limit).trans (if_pos rfl)

namespace Machine

/-! ### The quantiser at the ends of [0, 1] (R330, R331) -/

theorem floatToInt_grid_of_ge_one {g l : F32} {limit : Nat} (hpos : 0 < limit) (hlimit : limit ≤ 2 ^ 24)
    (hg : g = F32.ofNat limit) (hl : l.isFinite = true) (hge : l.lt F32.one = false) :
    floatToInt (g.mul l) limit = limit := by
  subst hg
  obtain ⟨hfinite, hvalue⟩ := F32.ofNat_exact hlimit
  have hone : F32.one = F32.ofNat 1 := by decide
  obtain ⟨hone1, honeValue⟩ := F32.ofNat_exact (n := 1) (by omega)
  rw [← hone] at hone1 honeValue
  have hlvalue : 1 ≤ l.value := by
    by_contra hlt
    have := (F32.lt_iff_value_lt hl hone1).mpr (by rw [honeValue]; exact_mod_cast not_le.mp hlt)
    rw [this] at hge
    exact Bool.noConfusion hge
  have hlimit' : (0 : ℚ) ≤ limit := Nat.cast_nonneg _
  rcases (F32.mul_finite hfinite hl).1.ge_or_inf hfinite (by rw [hvalue]; nlinarith) with ⟨hy, hle⟩ | hinf
  · exact floatToInt_of_ge hy hpos hlimit (hvalue ▸ hle)
  · exact hinf ▸ floatToInt_inf false limit

theorem floatToInt_grid_of_nonpos {g l : F32} {limit : Nat} (hlimit : limit ≤ 2 ^ 24)
    (hg : g = F32.ofNat limit) (hl : l.isFinite = true) (hle : F32.zero.lt l = false) :
    floatToInt (g.mul l) limit = 0 := by
  subst hg
  obtain ⟨hfinite, hvalue⟩ := F32.ofNat_exact hlimit
  obtain ⟨hzero, hzeroValue⟩ := F32.isFinite_zero
  have hlvalue : l.value ≤ 0 := by
    by_contra hlt
    have := (F32.lt_iff_value_lt hzero hl).mpr (by rw [hzeroValue]; exact not_le.mp hlt)
    rw [this] at hle
    exact Bool.noConfusion hle
  have hlimit' : (0 : ℚ) ≤ limit := Nat.cast_nonneg _
  rcases (F32.mul_finite hfinite hl).1.le_or_inf hzero (by rw [hvalue, hzeroValue]; nlinarith) with ⟨hy, hle⟩ | hinf
  · exact floatToInt_of_nonpos hy (hzeroValue ▸ hle) limit
  · exact hinf ▸ floatToInt_inf true limit

/-- The three fields of a quantised colour (R110, R330). -/
theorem floatTo565_fields (v : Vec3) :
    (floatTo565 v).extractLsb' 11 5 = BitVec.ofNat 5 (floatToInt (f31.mul v.x) 31) ∧
    (floatTo565 v).extractLsb' 5 6 = BitVec.ofNat 6 (floatToInt (f63.mul v.y) 63) ∧
    (floatTo565 v).extractLsb' 0 5 = BitVec.ofNat 5 (floatToInt (f31.mul v.z) 31) := by
  have hr := floatToInt_le (f31.mul v.x) 31
  have hg := floatToInt_le (f63.mul v.y) 63
  have hb := floatToInt_le (f31.mul v.z) 31
  have hword : (floatTo565 v).toNat = _ := toNat_pack565 (Nat.lt_succ_of_le hr) (Nat.lt_succ_of_le hg) (Nat.lt_succ_of_le hb)
  refine ⟨?_, ?_, ?_⟩ <;> apply BitVec.eq_of_toNat_eq <;>
    simp only [BitVec.extractLsb'_toNat, BitVec.toNat_ofNat, hword, Nat.shiftRight_eq_div_pow] <;> omega

theorem f31_eq_ofNat : f31 = F32.ofNat 31 := by decide

theorem f63_eq_ofNat : f63 = F32.ofNat 63 := by decide

/-- Finite lanes of 1 and more give full fields, those of 0 and less give empty ones (R331). -/
theorem floatTo565_clamped {v : Vec3} (hx : v.x.isFinite = true) (hy : v.y.isFinite = true) (hz : v.z.isFinite = true) :
    (v.x.lt F32.one = false → (floatTo565 v).extractLsb' 11 5 = 31#5) ∧
    (v.y.lt F32.one = false → (floatTo565 v).extractLsb' 5 6 = 63#6) ∧
    (v.z.lt F32.one = false → (floatTo565 v).extractLsb' 0 5 = 31#5) ∧
    (F32.zero.lt v.x = false → (floatTo565 v).extractLsb' 11 5 = 0#5) ∧
    (F32.zero.lt v.y = false → (floatTo565 v).extractLsb' 5 6 = 0#6) ∧
    (F32.zero.lt v.z = false → (floatTo565 v).extractLsb' 0 5 = 0#5) := by
  obtain ⟨hr, hg, hb⟩ := floatTo565_fields v
  rw [hr, hg, hb]
  refine ⟨fun h => ?_, fun h => ?_, fun h => ?_, fun h => ?_, fun h => ?_, fun h => ?_⟩
  · rw [floatToInt_grid_of_ge_one (by omega) (by omega) f31_eq_ofNat hx h]
  · rw [floatToInt_grid_of_ge_one (by omega) (by omega) f63_eq_ofNat hy h]
  · rw [floatToInt_grid_of_ge_one (by omega) (by omega) f31_eq_ofNat hz h]
  · rw [floatToInt_grid_of_nonpos (by omega) f31_eq_ofNat hx h]
  · rw [floatToInt_grid_of_nonpos (by omega) f63_eq_ofNat hy h]
  · rw [floatToInt_grid_of_nonpos (by omega) f31_eq_ofNat hz h]

/-! ### The packed block read back (R333, R334) -/

theorem packBlock3_fields (a b : BitVec 16) (idx : Vector (BitVec 2) 16) :
    endpointA (packBlock3 a b idx) = (if a.toNat ≤ b.toNat then a else b) ∧
    endpointB (packBlock3 a b idx) = (if a.toNat ≤ b.toNat then b else a) ∧
    ∀ i : Fin 16, colourIndex (packBlock3 a b idx) i =
      (if a.toNat ≤ b.toNat then (idx[i]).toFin
       else if idx[i] = 0#2 then 1 else if idx[i] = 1#2 then 0 else (idx[i]).toFin) := by
  unfold packBlock3
  split
  · exact ⟨endpointA_writeColourBlock .., endpointB_writeColourBlock .., colourIndex_writeColourBlock a b idx⟩
  · refine ⟨endpointA_writeColourBlock .., endpointB_writeColourBlock .., fun i => ?_⟩
    rw [colourIndex_writeColourBlock, Fin.getElem_fin, Vector.getElem_ofFn]
    rcases bitVec2_cases idx[i] with h | h | h | h <;> rw [h] <;> rfl

theorem packBlock4_fields (a b : BitVec 16) (idx : Vector (BitVec 2) 16) :
    endpointA (packBlock4 a b idx) = (if a.toNat < b.toNat then b else a) ∧
    endpointB (packBlock4 a b idx) = (if a.toNat < b.toNat then a else b) ∧
    ∀ i : Fin 16, colourIndex (packBlock4 a b idx) i =
      (if a = b then 0 else if a.toNat < b.toNat then (idx[i] ^^^ 1#2).toFin else (idx[i]).toFin) := by
  unfold packBlock4
  split
  · next hlt =>
    have hne : a ≠ b := fun h => by
      rw [h] at hlt
      exact Nat.lt_irrefl _ hlt
    refine ⟨endpointA_writeColourBlock .., endpointB_writeColourBlock .., fun i => ?_⟩
    rw [colourIndex_writeColourBlock, Fin.getElem_fin, Vector.getElem_ofFn, if_neg hne]
    rfl
  · split
    · refine ⟨endpointA_writeColourBlock .., endpointB_writeColourBlock .., fun i => ?_⟩
      rw [colourIndex_writeColourBlock, Fin.getElem_fin, Vector.getElem_replicate]
      rfl
    · exact ⟨endpointA_writeColourBlock .., endpointB_writeColourBlock .., colourIndex_writeColourBlock a b idx⟩

/-- What a command that writes the colour half of CFG's format leaves (R340, R341). -/
theorem complete_writeBlockHalf (s : State) (high : Bool) (bytes : Vector Byte 8) :
    (s.writeBlockHalf high bytes).complete =
      { s with block := (s.writeBlockHalf high bytes).complete.block, done := true, busy := false } ∧
    (s.writeBlockHalf high bytes).complete.blockHalf high = bytes ∧
    ∀ n : Fin 16, (decide (8 ≤ n.val) == high) = false →
      (s.writeBlockHalf high bytes).complete.blockByte n = s.blockByte n := by
  refine ⟨rfl, (blockHalf_congr (State.complete_block _) _).trans (blockHalf_writeBlockHalf_same ..), fun n hn => ?_⟩
  rw [blockByte_congr (State.complete_block _), blockByte_writeBlockHalf]
  exact if_neg (beq_eq_false_iff_ne.mp hn)

/-- Settles O48. The clamps are the quantiser's at the ends of [0, 1]; the rest is the packed block read back. -/
theorem packCommands : Obligations.PackCommands := by
  rintro s a b hfinite rfl rfl
  have hlanes : ((s.fit.start.x.isFinite = true ∧ s.fit.start.y.isFinite = true) ∧ s.fit.start.z.isFinite = true) ∧
      (s.fit.stop.x.isFinite = true ∧ s.fit.stop.y.isFinite = true) ∧ s.fit.stop.z.isFinite = true := by
    rw [← endpointsFinite_eq] at hfinite
    simpa [FitResult.endpointsFinite, Vec3.isFinite, and_assoc] using hfinite
  obtain ⟨⟨⟨hx, hy⟩, hz⟩, ⟨hx', hy'⟩, hz'⟩ := hlanes
  refine ⟨fun v hv => ?clamps, ?packed⟩
  case clamps =>
    rcases List.mem_pair.mp hv with rfl | rfl
    · exact floatTo565_clamped hx hy hz
    · exact floatTo565_clamped hx' hy' hz'
  case packed =>
    obtain ⟨hframe3, hhalf3, hkeep3⟩ := complete_writeBlockHalf s (!isBC1 (normalise s.cfg))
      (writeColourBlock3 s.fit.start s.fit.stop s.fit.idx)
    obtain ⟨hframe4, hhalf4, hkeep4⟩ := complete_writeBlockHalf s (!isBC1 (normalise s.cfg))
      (writeColourBlock4 s.fit.start s.fit.stop s.fit.idx)
    obtain ⟨ha3, hb3, hi3⟩ := packBlock3_fields (floatTo565 s.fit.start) (floatTo565 s.fit.stop) s.fit.idx
    obtain ⟨ha4, hb4, hi4⟩ := packBlock4_fields (floatTo565 s.fit.start) (floatTo565 s.fit.stop) s.fit.idx
    refine ⟨_, _, exec_of_not_due (i := .pack3) (if_pos hfinite), hframe3, ?_, ?_, fun i => ?_,
      exec_of_not_due (i := .pack4) (if_pos hfinite), hframe4, ?_, ?_, fun i => ?_, fun n hn => ⟨hkeep3 n hn, hkeep4 n hn⟩⟩
    · exact (congrArg endpointA hhalf3).trans ha3
    · exact (congrArg endpointB hhalf3).trans hb3
    · exact (congrArg (colourIndex · i) hhalf3).trans (hi3 i)
    · exact (congrArg endpointA hhalf4).trans ha4
    · exact (congrArg endpointB hhalf4).trans hb4
    · exact (congrArg (colourIndex · i) hhalf4).trans (hi4 i)

end Machine
end Sys2Proof
end

section
/-! PROOFS. The endpoints of the range and the cluster fit (`42_fit_range.md` R228, R236, `43_fit_cluster.md` R274, R281): grid points
that the quantiser recovers (R330). -/

namespace Sys2Proof

/-! ### One lane of the grid (R158, R274) -/

theorem F32.clamp01_value (x : F32) :
    x.clamp01.isFinite = true ∧ 0 ≤ x.clamp01.value ∧ x.clamp01.value ≤ 1 := by
  have hbits := x.clamp01_bits_le_one
  have hkey : x.clamp01.key = x.clamp01.bits.toNat := F32.key_of_bits_lt (by omega)
  have hfinite : x.clamp01.isFinite = true := F32.isFinite_iff.mpr (by omega)
  have hone : F32.one = F32.ofNat 1 := by decide
  obtain ⟨hone1, hone2⟩ := F32.ofNat_exact (n := 1) (by omega)
  rw [← hone] at hone1 hone2
  obtain ⟨hzero1, hzero2⟩ := F32.isFinite_zero
  have hnan := F32.isNaN_of_isFinite hfinite
  have honeKey : F32.one.key = 0x3F800000 := by decide
  have hzeroKey : F32.zero.key = 0 := by decide
  refine ⟨hfinite, ?_, ?_⟩
  · by_contra hneg
    have := (F32.lt_iff_value_lt hfinite hzero1).mpr (by rw [hzero2]; exact not_le.mp hneg)
    rw [F32.lt_iff_key_lt hnan (F32.isNaN_of_isFinite hzero1)] at this
    omega
  · by_contra hgt
    have := (F32.lt_iff_value_lt hone1 hfinite).mpr (by rw [hone2]; exact_mod_cast not_le.mp hgt)
    rw [F32.lt_iff_key_lt (F32.isNaN_of_isFinite hone1) hnan] at this
    omega

/-- A clamped lane times the grid, rounded and truncated, is a field of the grid. -/
theorem gridField_of_clamp01 {n : Nat} (hn : n ≤ 255) (x : F32) :
    ∃ r, r ≤ n ∧ (((F32.ofNat n).mul x.clamp01).add F32.half).trunc = F32.ofNat r := by
  obtain ⟨hx, hlow, hhigh⟩ := x.clamp01_value
  generalize x.clamp01 = l at *
  obtain ⟨hfinite, hvalue⟩ := F32.ofNat_exact (n := n) (by omega)
  obtain ⟨hhalf, hhalfValue⟩ := F32.half_exact
  obtain ⟨hzero, hzeroValue⟩ := F32.isFinite_zero
  obtain ⟨z, hz, hzvalue, -⟩ := F32.exists_value false (a := 2 * n + 1) (e := -1) (by omega) (by omega) (by omega)
  have hzvalue : z.value = n + 1 / 2 := by
    rw [hzvalue]
    norm_num [signFactor]
    ring
  have hn0 : (0 : ℚ) ≤ n := Nat.cast_nonneg n
  have hn255 : (n : ℚ) ≤ 255 := by exact_mod_cast hn
  have hsmall (q : ℚ) (h0 : 0 ≤ q) (h1 : q ≤ 256) : |q| < (2 : ℚ) ^ 128 - 2 ^ 103 := by
    rw [abs_of_nonneg h0]
    norm_num
    linarith
  have hproduct : 0 ≤ (n : ℚ) * l.value ∧ (n : ℚ) * l.value ≤ n := ⟨mul_nonneg hn0 hlow, by nlinarith⟩
  have hmul := (F32.mul_finite hfinite hx).1
  rw [hvalue] at hmul
  have hmulSmall := hsmall _ hproduct.1 (by linarith)
  have hp := (hmul.1 hmulSmall).1
  have hp0 := hmul.ge_of_ge hmulSmall hzero (by rw [hzeroValue]; exact hproduct.1)
  have hp1 := hmul.le_of_le hmulSmall hfinite (by rw [hvalue]; exact hproduct.2)
  rw [hzeroValue] at hp0
  rw [hvalue] at hp1
  generalize (F32.ofNat n).mul l = p at *
  have hadd := (F32.add_finite hp hhalf).1
  rw [hhalfValue] at hadd
  have haddSmall := hsmall (p.value + 1 / 2) (by linarith) (by linarith)
  have hy := (hadd.1 haddSmall).1
  have hy0 := hadd.ge_of_ge haddSmall hhalf (by rw [hhalfValue]; linarith)
  have hy1 := hadd.le_of_le haddSmall hz (by rw [hzvalue]; linarith)
  rw [hhalfValue] at hy0
  rw [hzvalue] at hy1
  obtain ⟨r, htrunc, -, hr, -⟩ := F32.trunc_of_nonneg hy (F32.sign_of_value_pos hy (by linarith)) (by norm_num; linarith)
  refine ⟨r, ?_, htrunc⟩
  have : (r : ℚ) < (n + 1 : Nat) := by push_cast; linarith
  exact Nat.le_of_lt_succ (Nat.cast_lt.mp this)

namespace Machine

/-! ### Grid points (R236, R281, R330) -/

/-- A triple of grid fractions as the datapath computes them. -/
def OnGrid (v : Vec3) : Prop :=
  ∃ r g b : Nat, r ≤ 31 ∧ g ≤ 63 ∧ b ≤ 31 ∧
    v = ⟨(F32.ofNat r).mul rcp31, (F32.ofNat g).mul rcp63, (F32.ofNat b).mul rcp31⟩

/-- The quantiser recovers a lane of the grid (R330). -/
theorem floatToInt_grid_five : ∀ r < 32, floatToInt (f31.mul ((F32.ofNat r).mul rcp31)) 31 = r := by decide +kernel

theorem floatToInt_grid_six : ∀ g < 64, floatToInt (f63.mul ((F32.ofNat g).mul rcp63)) 63 = g := by decide +kernel

theorem floatTo565_grid {r g b : Nat} (hr : r ≤ 31) (hg : g ≤ 63) (hb : b ≤ 31) :
    floatTo565 ⟨(F32.ofNat r).mul rcp31, (F32.ofNat g).mul rcp63, (F32.ofNat b).mul rcp31⟩ =
      BitVec.ofNat 16 (2048 * r + 32 * g + b) := by
  apply BitVec.eq_of_toNat_eq
  rw [floatTo565, floatToInt_grid_five r (by omega), floatToInt_grid_six g (by omega), floatToInt_grid_five b (by omega),
    toNat_pack565 (by omega) (by omega) (by omega), BitVec.toNat_ofNat]
  omega

/-- What either fit makes of three lanes is a grid point (R158, R274). -/
theorem onGrid_lanes (x y z : F32) :
    OnGrid ⟨((f31.mul x.clamp01).add F32.half).trunc.mul rcp31, ((f63.mul y.clamp01).add F32.half).trunc.mul rcp63,
      ((f31.mul z.clamp01).add F32.half).trunc.mul rcp31⟩ := by
  rw [f31_eq_ofNat, f63_eq_ofNat]
  obtain ⟨r, hr, hx⟩ := gridField_of_clamp01 (n := 31) (by omega) x
  obtain ⟨g, hg, hy⟩ := gridField_of_clamp01 (n := 63) (by omega) y
  obtain ⟨b, hb, hz⟩ := gridField_of_clamp01 (n := 31) (by omega) z
  exact ⟨r, g, b, hr, hg, hb, by rw [hx, hy, hz]⟩

theorem onGrid_quantiseGrid (v : Vec3) : OnGrid (quantiseGrid v.clamp01) := onGrid_lanes v.x v.y v.z

theorem onGrid_clampToGrid (a : Vec4) : OnGrid (clampToGrid a).getVec3 := onGrid_lanes a.x a.y a.z

/-- The zero a search starts from is a grid point. -/
theorem onGrid_zero4 : OnGrid zero4.getVec3 := ⟨0, 0, 0, by omega, by omega, by omega, by decide⟩

/-! ### The endpoints a search leaves (R265, R266, R270) -/

/-- Both endpoints of the running best are grid points. -/
def Search.EndpointsOnGrid (b : Search) : Prop := OnGrid b.start.getVec3 ∧ OnGrid b.stop.getVec3

/-- A partition's solution is clamped to the grid, whatever the partition. -/
def Solution.EndpointsOnGrid (r : Solution) : Prop := OnGrid r.a.getVec3 ∧ OnGrid r.b.getVec3

theorem solve_onGrid (metric alphax betax alphabeta : Vec4) : (solve metric alphax betax alphabeta).EndpointsOnGrid :=
  ⟨onGrid_clampToGrid _, onGrid_clampToGrid _⟩

theorem partitions_onGrid {size : CodebookSize} {metric : Vec4} {pw : List Vec4} {c : Partition}
    (hc : c ∈ partitions size metric pw) : c.solution.EndpointsOnGrid := by
  cases size with
  | three =>
    obtain ⟨i, j, -, -, -, -, rfl⟩ := mem_partitions_three.mp hc
    exact solve_onGrid ..
  | four =>
    obtain ⟨i, j, k, -, -, -, -, -, rfl⟩ := mem_partitions_four.mp hc
    exact solve_onGrid ..

theorem considerAll_onGrid {l : List Partition} (hl : ∀ c ∈ l, c.solution.EndpointsOnGrid) (it : Nat) {b : Search}
    (hb : b.EndpointsOnGrid) : (considerAll it l b).EndpointsOnGrid := by
  induction l generalizing b with
  | nil => exact hb
  | cons c l ih =>
    rw [considerAll_cons]
    refine ih (fun d hd => hl d (List.mem_cons_of_mem c hd)) ?_
    rcases consider_cases b c.solution c.i c.j c.k it with h | ⟨-, h⟩ <;> rw [h]
    · exact hb
    · exact hl c List.mem_cons_self

theorem searchLoop_onGrid (size : CodebookSize) (metric : Vec4) (pts : List (Vec3 × F32)) (limit fuel it tried : Nat)
    (pw : List Vec4) (o : Vector Byte 128) {b : Search} (hb : b.EndpointsOnGrid) :
    (searchLoop size metric pts limit fuel it tried pw o b).best.EndpointsOnGrid := by
  induction fuel generalizing it tried pw o b with
  | zero => exact hb
  | succ fuel ih =>
    have hnext : (enumerate size metric it pw b).EndpointsOnGrid := by
      rw [enumerate_eq]
      exact considerAll_onGrid (fun c => partitions_onGrid) it hb
    rw [searchLoop]
    dsimp only
    split
    · exact hnext
    · split
      · exact hnext
      · split
        · exact ih _ _ _ _ hnext
        · exact hnext

theorem clusterSearch_onGrid (size : CodebookSize) (f : BitVec 9) (pts : List (Vec3 × F32)) (axis : Vec3)
    (o : Vector Byte 128) (best : F32) : (clusterSearch size f pts axis o best).best.EndpointsOnGrid :=
  searchLoop_onGrid _ _ _ _ _ _ _ _ _ ⟨onGrid_zero4, onGrid_zero4⟩

/-! ### The endpoints a fit leaves (R236, R281) -/

theorem fitRange_onGrid {s t : State} (hps : s.ps.valid = true) (hexec : exec .fitRange s = .next t)
    (hvalid : t.fit.valid = true) : OnGrid t.fit.start ∧ OnGrid t.fit.stop := by
  obtain ⟨-, -, u, hu, -, -, -, -, hwritten⟩ := fitRangeResult s _ _ _ _ hps rfl (fun _ => rfl) rfl rfl
  obtain rfl : u = t := Host.Outcome.next.inj (hu.symm.trans hexec)
  obtain ⟨hstart, hstop, -⟩ := hwritten hvalid
  rw [hstart, hstop]
  exact ⟨onGrid_quantiseGrid _, onGrid_quantiseGrid _⟩

theorem fitCluster_onGrid {s t : State} (hps : s.ps.valid = true) (hexec : exec .fitCluster s = .next t)
    (hvalid : t.fit.valid = true) : OnGrid t.fit.start ∧ OnGrid t.fit.stop := by
  obtain ⟨u, hu, -, -, -, -, -, -, -, -, -, hwritten, -⟩ :=
    fitClusterResult s _ _ _ _ _ _ _ _ hps rfl rfl rfl rfl rfl rfl rfl rfl
  obtain rfl : u = t := Host.Outcome.next.inj (hu.symm.trans hexec)
  obtain ⟨-, -, -, -, hstart, hstop, -⟩ := hwritten hvalid _ rfl
  have hwinner (won : Bool) {r r' : SearchResult} (h : r.best.EndpointsOnGrid) (h' : r'.best.EndpointsOnGrid) :
      (if won then r else r').best.EndpointsOnGrid := by cases won <;> assumption
  rw [hstart, hstop]
  exact hwinner _ (clusterSearch_onGrid ..) (clusterSearch_onGrid ..)

/-- Settles O36. Both fits write endpoints clamped to the grid, and the quantiser recovers each of its fields. -/
theorem fitEndpointsOnGrid : Obligations.FitEndpointsOnGrid := by
  intro i s t hi hdue hexec hvalid v hv
  have hps : s.ps.valid = true := by
    simp only [List.mem_cons, List.not_mem_nil, or_false] at hi
    by_contra hne
    rcases hi with rfl | rfl <;> simp [stepError, hne] at hdue
  have hgrid : OnGrid t.fit.start ∧ OnGrid t.fit.stop := by
    simp only [List.mem_cons, List.not_mem_nil, or_false] at hi
    rcases hi with rfl | rfl
    · exact fitRange_onGrid hps hexec hvalid
    · exact fitCluster_onGrid hps hexec hvalid
  have hpoint : OnGrid v := by
    rcases List.mem_pair.mp hv with rfl | rfl
    · exact hgrid.1
    · exact hgrid.2
  obtain ⟨r, g, b, hr, hg, hb, rfl⟩ := hpoint
  exact ⟨r, g, b, hr, hg, hb, rfl, floatTo565_grid hr hg hb⟩

end Machine
end Sys2Proof
end
